-- ==== Sys2Proof/Word.lean ====
section
/-! DEFINITION. The block's words and small value types: bytes, signed 16-bit samples, the six lanes, the
enumerations of the spec, the fields an observer is shown, and a packet as it stands on the block's boundary. -/

namespace Sys2Proof

/-- `u8`: a byte of a payload (R6). -/
abbrev Byte := BitVec 8

/-- `s16`: the 16-bit pattern of a signed sample, two's complement (R6, R10; PRESUMED, entry 24); its value is `toInt`. -/
abbrev S16 := BitVec 16

/-- One value for each of the six lanes, in the fixed order ax, ay, az, gx, gy, gz (R11). -/
structure Lanes (α : Type) where
  ax : α
  ay : α
  az : α
  gx : α
  gy : α
  gz : α
deriving DecidableEq, Repr, Inhabited

/-- Six samples: one burst read's answer, or the contents of one register group (R34, R85). -/
abbrev Sample := Lanes S16

/-- The entry of lane `k` (R11). -/
def Lanes.get {α : Type} (v : Lanes α) : Fin 6 → α
  | 0 => v.ax
  | 1 => v.ay
  | 2 => v.az
  | 3 => v.gx
  | 4 => v.gy
  | 5 => v.gz

/-- The six lanes given by a function of the lane number. -/
def Lanes.ofFn {α : Type} (f : Fin 6 → α) : Lanes α :=
  ⟨f 0, f 1, f 2, f 3, f 4, f 5⟩

/-- Apply `f` in every lane on its own (R98). -/
def Lanes.map {α β : Type} (f : α → β) (v : Lanes α) : Lanes β :=
  ⟨f v.ax, f v.ay, f v.az, f v.gx, f v.gy, f v.gz⟩

/-- Combine two groups lane by lane; no lane sees another (R98). -/
def Lanes.zipWith {α β γ : Type} (f : α → β → γ) (u : Lanes α) (v : Lanes β) : Lanes γ :=
  ⟨f u.ax v.ax, f u.ay v.ay, f u.az v.az, f u.gx v.gx, f u.gy v.gy, f u.gz v.gz⟩

/-- The two values of MODE (R17). -/
inductive Mode where
  | disabled
  | enabled
deriving DecidableEq, Repr, Inhabited

/-- Who asked for a mode change: the internal/API trigger or a received command (R72, R77). -/
inductive Origin where
  | api
  | command
deriving DecidableEq, Repr, Inhabited

/-- The two kinds of outgoing event (R59, R115). -/
inductive EventKind where
  | motionData
  | modeChange
deriving DecidableEq, Repr, Inhabited

/-- The parameter TRUNC_MODE: how the filter's fraction is discarded (R5, R95). -/
inductive TruncMode where
  | towardZero
  | towardNegInf
deriving DecidableEq, Repr, Inhabited

/-- The semantic fields an observer is shown (R116). -/
inductive EventFields where
  | motionData (sensorIndex channelMask byteCount : Byte) (samples : Sample)
  | modeChange (sensorIndex : Byte) (mode : Mode)
deriving DecidableEq, Repr, Inhabited

/-- The formats of the operation table: an operation by its selector, or one of the three wire formats (R50, R62).
The kind of a packet is told outside its bytes (R59, R61). -/
inductive Format where
  | op
  | md
  | mm
  | mc
deriving DecidableEq, Repr, Inhabited

/-- An operation as it is presented to the block: its format and its bytes, byte 0 first (R50). -/
structure Packet where
  format : Format
  bytes  : List Byte
deriving DecidableEq, Repr, Inhabited

end Sys2Proof
end

