-- ==== Sys2Proof/Config.lean ====
section
/-! DEFINITION. What this hardware fixes (the table of R5), and the free values: opaque constants with no body, of which
nothing can be proved but what holds of every value. -/

namespace Sys2Proof

/-- SENSOR_INDEX: byte 0 of both outgoing payloads (R5). -/
def Config.sensorIndex : Byte := 0x00

/-- CHMASK: byte 1 of the motion-data payload; bit 0 acceleration, bit 1 angular rate (R5, R52). -/
def Config.channelMask : Byte := 0x03

/-- BYTECOUNT: byte 2 of the motion-data payload, the number of data bytes (R5, R53). -/
def Config.byteCount : Byte := 0x0C

/-- MD_LEN: length of the motion-data payload in bytes (R5, R61). -/
def Config.mdLen : Nat := 15

/-- MM_LEN: length of the mode-change payload in bytes (R5, R61). -/
def Config.mmLen : Nat := 2

/-- MODE_DISABLED: the byte that spells Disabled (R5, R58; DESIGN CHOICE of the spec, D10, entry 16). -/
def Config.modeDisabled : Byte := 0x00

/-- MODE_ENABLED: the byte that spells Enabled (R5, R58; DESIGN CHOICE of the spec, D10, entry 16). -/
def Config.modeEnabled : Byte := 0x01

/-- FREE VALUE: what register `x[i]` holds while it is unwritten, for the `draw`-th RESET (R24: no defined value; entry 1). -/
opaque Config.unwrittenValue : (draw : Nat) → Fin 18 → S16

/-- FREE VALUE: the sensor oracle's answer to a burst read whose answer the state does not list (R85, U6; entry 5). -/
opaque Config.sensorAnswer : (draw : Nat) → Sample

/-- FREE VALUE: an observer's answer to a call whose answer the state does not list (R116; entry 4). -/
opaque Config.observerAnswer : (draw : Nat) → EventFields → Bool

end Sys2Proof
end

