-- ==== Sys2Proof/Syntax.lean ====
section
/-! DEFINITION. The operations of the block: one constructor for each of the nineteen rows of the operation table (R62, R50). -/

namespace Sys2Proof

inductive Instr where
  /-- RESET, selector 0000 (R150). -/
  | reset
  /-- IRQ, selector 0001: a falling edge on the data-ready line (R70). -/
  | irq
  /-- SETMODE, selector 0010 (R72): a mode request, with any `u8` as sensor id and as mode. -/
  | setmode (origin : Origin) (sensorId mode : Byte)
  /-- POLL, selector 0011 (R120). -/
  | poll
  /-- LCLR, selector 0100 (R121). -/
  | lclr
  /-- RDSENS, selector 0101 (R85). -/
  | rdsens
  /-- SHADOW, selector 0110 (R91). -/
  | shadow
  /-- EMA, selector 0111 (R92). -/
  | ema
  /-- FCLR, selector 1000 (R90). -/
  | fclr
  /-- FSTEP, selector 1001 (R99). -/
  | fstep
  /-- ENCMD, selector 1010 (R106). -/
  | encmd
  /-- ENCMM, selector 1011 (R109): `new` is the mode just entered. -/
  | encmm (new : Mode)
  /-- GATE, selector 1100 (R115): `payload` is the bytes ENCMD or ENCMM returned. -/
  | gate (kind : EventKind) (payload : List Byte)
  /-- PUT16LE, selector 1101 (R105): `i` is a payload index, one of 3, 5, 7, 9, 11, 13. -/
  | put16le (i : Nat) (v : S16)
  /-- ENABLE, selector 1110 (R73). -/
  | enable
  /-- DISABLE, selector 1111 (R74). -/
  | disable
  /-- The outgoing motion-data event, format MD (R51): the samples of its twelve data bytes. -/
  | evtMotionData (samples : Sample)
  /-- The outgoing mode-change event, format MM (R56). -/
  | evtMotionMode (mode : Mode)
  /-- The incoming mode command, format MC (R57): SETMODE with origin Command. -/
  | cmdSetMode (mode : Mode)
deriving DecidableEq, Repr

end Sys2Proof
end

