-- ==== Sys2Proof/WellFormed.lean ====
section
/-! DEFINITION. Which operations are well formed: the operand restrictions the spec states (R105, R115, R60). -/

namespace Sys2Proof

/-- The payload indices PUT16LE is given: 3, 5, 7, 9, 11, 13 (R105, R33). -/
def isSampleIndex (i : Nat) : Bool :=
  decide (i % 2 = 1) && decide (3 ≤ i) && decide (i ≤ 13)

/-- `payload` has the layout of its kind: MD is 15 bytes that begin `00 03 0C`; MM is `00 00` or `00 01`
(R36, R51, R56, R60, R61). The twelve data bytes of MD are unconstrained (R60). -/
def payloadFits (kind : EventKind) (payload : List Byte) : Bool :=
  match kind with
  | .motionData =>
    decide (payload.length = Config.mdLen) &&
      decide (payload.take 3 = [Config.sensorIndex, Config.channelMask, Config.byteCount])
  | .modeChange =>
    decide (payload = [Config.sensorIndex, Config.modeDisabled]) ||
      decide (payload = [Config.sensorIndex, Config.modeEnabled])

/-- Well-formed operations. SETMODE's operands are any two bytes (`u8`, R72): which of them are refused is its meaning (R78). -/
def Instr.wf : Instr → Bool
  | .reset => true
  | .irq => true
  | .setmode _ _ _ => true
  | .poll => true
  | .lclr => true
  | .rdsens => true
  | .shadow => true
  | .ema => true
  | .fclr => true
  | .fstep => true
  | .encmd => true
  | .encmm _ => true
  | .gate kind payload => payloadFits kind payload
  | .put16le i _ => isSampleIndex i
  | .enable => true
  | .disable => true
  | .evtMotionData _ => true
  | .evtMotionMode _ => true
  | .cmdSetMode _ => true

end Sys2Proof
end

