-- ==== Sys2Proof/Decode.lean ====
section
/-! DEFINITION. The encodings: sample fields and payloads (R54, R55, R51, R56), the decoder from a packet to an operation,
total and rejecting by name, then the encoder written from the same tables (R62, R50, R57), the operation table itself, and
the reading of a table word. -/

namespace Sys2Proof

/-! ### Fields (R6, R54, R55) -/

/-- `pat16(v)`: the 16-bit pattern of an integer (R6). -/
def pat16 (v : Int) : S16 := BitVec.ofInt 16 v

/-- `p[7:0]` (R54). -/
def lowByte (p : S16) : Byte := p.extractLsb' 0 8

/-- `p[15:8]` (R54). -/
def highByte (p : S16) : Byte := p.extractLsb' 8 8

/-- The two bytes of a sample, low byte at the lower index (R31, R54). -/
def le16 (p : S16) : List Byte := [lowByte p, highByte p]

/-- `hi ++ lo`: a receiver's assembly of a sample (R55). -/
def ofLe16 (lo hi : Byte) : S16 := hi ++ lo

/-- The byte that spells a mode (R58). -/
def modeByte : Mode → Byte
  | .disabled => Config.modeDisabled
  | .enabled => Config.modeEnabled

/-- The mode a byte spells, if it spells one (R58, R60). -/
def modeOfByte (b : Byte) : Option Mode :=
  if b = Config.modeDisabled then some .disabled
  else if b = Config.modeEnabled then some .enabled
  else none

/-! ### Payloads (R36, R51, R56) -/

/-- The twelve data bytes of the motion-data payload (R51). -/
def sampleBytes (v : Sample) : List Byte :=
  le16 v.ax ++ le16 v.ay ++ le16 v.az ++ le16 v.gx ++ le16 v.gy ++ le16 v.gz

/-- The six samples of twelve data bytes (R55). -/
def sampleOfBytes : List Byte → Option Sample
  | [a0, a1, b0, b1, c0, c1, d0, d1, e0, e1, f0, f1] =>
    some ⟨ofLe16 a0 a1, ofLe16 b0 b1, ofLe16 c0 c1, ofLe16 d0 d1, ofLe16 e0 e1, ofLe16 f0 f1⟩
  | _ => none

/-- The three bytes every motion-data payload begins with (R51). -/
def motionHeader : List Byte := [Config.sensorIndex, Config.channelMask, Config.byteCount]

/-- Format MD, 15 bytes (R51). -/
def motionPayload (v : Sample) : List Byte := motionHeader ++ sampleBytes v

/-- Format MM, 2 bytes (R56). -/
def modePayload (m : Mode) : List Byte := [Config.sensorIndex, modeByte m]

/-- The samples of a motion-data payload; any other header or length has no meaning (R55, U16). -/
def unpackMotion (payload : List Byte) : Option Sample :=
  if payload.take 3 = motionHeader then sampleOfBytes (payload.drop 3) else none

/-- The mode of a mode-change or mode-command payload; anything else has no meaning (R55, R57, R60). -/
def unpackMode : List Byte → Option Mode
  | [id, m] => if id = Config.sensorIndex then modeOfByte m else none
  | _ => none

/-! ### Decoding -/

/-- Why bytes are no packet of the block. -/
inductive DecodeError where
  /-- An operation packet with no byte at all. -/
  | emptyPacket
  /-- Bits 7 to 4 of the selector byte are not zero (entry 8). -/
  | selectorTooWide
  /-- The operation's operand bytes are too few or too many (entry 8). -/
  | operandLength
  /-- SETMODE's origin byte is neither 0 (Api) nor 1 (Command) (R163). -/
  | originUndefined
  /-- ENCMM's or GATE's mode byte spells no mode (R58). -/
  | modeUndefined
  /-- GATE's kind byte is neither 0 (MotionData) nor 1 (ModeChange) (R163). -/
  | kindUndefined
  /-- PUT16LE's lane byte is above 5 (R105). -/
  | laneUndefined
  /-- Not a format MD payload (R51, R60, U16). -/
  | motionEventUndefined
  /-- Not a format MM payload (R56, R60, U16). -/
  | modeEventUndefined
  /-- Not a defined mode command (R57, R60, R78). -/
  | modeCommandUndefined
deriving DecidableEq, Repr

/-- An operation with no operands. -/
def decodePlain (i : Instr) : List Byte → Except DecodeError Instr
  | [] => .ok i
  | _ => .error .operandLength

/-- SETMODE's operands: origin (0 Api, 1 Command), sensor id, mode (R72, R163; entry 8). -/
def decodeSetmode : List Byte → Except DecodeError Instr
  | [o, id, m] =>
    if o = 0 then .ok (.setmode .api id m)
    else if o = 1 then .ok (.setmode .command id m)
    else .error .originUndefined
  | _ => .error .operandLength

/-- ENCMM's operand: the mode byte (R109; entry 8). -/
def decodeEncmm : List Byte → Except DecodeError Instr
  | [m] =>
    match modeOfByte m with
    | some new => .ok (.encmm new)
    | none => .error .modeUndefined
  | _ => .error .operandLength

/-- GATE's operands: the kind (0 MotionData, 1 ModeChange; R163), then what varies in a payload of that kind, twelve data
bytes or a mode byte; the constant bytes are not spelled again (R115; entry 8). -/
def decodeGate : List Byte → Except DecodeError Instr
  | [] => .error .operandLength
  | kind :: rest =>
    if kind = 0 then
      match sampleOfBytes rest with
      | some v => .ok (.gate .motionData (motionPayload v))
      | none => .error .operandLength
    else if kind = 1 then
      match rest with
      | [m] =>
        match modeOfByte m with
        | some new => .ok (.gate .modeChange (modePayload new))
        | none => .error .modeUndefined
      | _ => .error .operandLength
    else .error .kindUndefined

/-- The payload index of lane `k` (R106). -/
def sampleIndex (k : Nat) : Nat := 3 + 2 * k

/-- The lane whose sample stands at payload index `i` (R106). -/
def laneOfIndex (i : Nat) : Nat := (i - 3) / 2

/-- PUT16LE's operands: the lane, whose index is 3 + 2k, and the value, little-endian (R105, R106; entry 8). -/
def decodePut16le : List Byte → Except DecodeError Instr
  | [k, lo, hi] =>
    if k.toNat < 6 then .ok (.put16le (sampleIndex k.toNat) (ofLe16 lo hi)) else .error .laneUndefined
  | _ => .error .operandLength

/-- An operation by its selector (R62). -/
def decodeOp : List Byte → Except DecodeError Instr
  | [] => .error .emptyPacket
  | sel :: operands =>
    match sel.toNat with
    | 0x0 => decodePlain .reset operands
    | 0x1 => decodePlain .irq operands
    | 0x2 => decodeSetmode operands
    | 0x3 => decodePlain .poll operands
    | 0x4 => decodePlain .lclr operands
    | 0x5 => decodePlain .rdsens operands
    | 0x6 => decodePlain .shadow operands
    | 0x7 => decodePlain .ema operands
    | 0x8 => decodePlain .fclr operands
    | 0x9 => decodePlain .fstep operands
    | 0xA => decodePlain .encmd operands
    | 0xB => decodeEncmm operands
    | 0xC => decodeGate operands
    | 0xD => decodePut16le operands
    | 0xE => decodePlain .enable operands
    | 0xF => decodePlain .disable operands
    | _ => .error .selectorTooWide

/-- Format MD (R51). -/
def decodeMd (bytes : List Byte) : Except DecodeError Instr :=
  match unpackMotion bytes with
  | some v => .ok (.evtMotionData v)
  | none => .error .motionEventUndefined

/-- Format MM (R56). -/
def decodeMm (bytes : List Byte) : Except DecodeError Instr :=
  match unpackMode bytes with
  | some m => .ok (.evtMotionMode m)
  | none => .error .modeEventUndefined

/-- Format MC (R57). -/
def decodeMc (bytes : List Byte) : Except DecodeError Instr :=
  match unpackMode bytes with
  | some m => .ok (.cmdSetMode m)
  | none => .error .modeCommandUndefined

/-- The operation a packet carries. MM and MC have the same bytes and are told apart by the format alone (R56, R57, R61; entry 9). -/
def decode (p : Packet) : Except DecodeError Instr :=
  match p.format with
  | .op => decodeOp p.bytes
  | .md => decodeMd p.bytes
  | .mm => decodeMm p.bytes
  | .mc => decodeMc p.bytes

/-! ### Encoding -/

/-- `cmd_origin`: 0 is Api, 1 is Command (R163). -/
def originByte : Origin → Byte
  | .api => 0
  | .command => 1

/-- `tx_kind`: 0 is MotionData, 1 is ModeChange (R163). -/
def kindByte : EventKind → Byte
  | .motionData => 0
  | .modeChange => 1

/-- What of a payload varies: the bytes after its constants (R51, R56). -/
def variablePart (kind : EventKind) (payload : List Byte) : List Byte :=
  match kind with
  | .motionData => payload.drop 3
  | .modeChange => payload.drop 1

/-- The packet of an operation (R62, R50; the operand bytes: entry 8). -/
def encode : Instr → Packet
  | .reset => ⟨.op, [0x0]⟩
  | .irq => ⟨.op, [0x1]⟩
  | .setmode o id m => ⟨.op, [0x2, originByte o, id, m]⟩
  | .poll => ⟨.op, [0x3]⟩
  | .lclr => ⟨.op, [0x4]⟩
  | .rdsens => ⟨.op, [0x5]⟩
  | .shadow => ⟨.op, [0x6]⟩
  | .ema => ⟨.op, [0x7]⟩
  | .fclr => ⟨.op, [0x8]⟩
  | .fstep => ⟨.op, [0x9]⟩
  | .encmd => ⟨.op, [0xA]⟩
  | .encmm new => ⟨.op, [0xB, modeByte new]⟩
  | .gate kind payload => ⟨.op, 0xC :: kindByte kind :: variablePart kind payload⟩
  | .put16le i v => ⟨.op, 0xD :: BitVec.ofNat 8 (laneOfIndex i) :: le16 v⟩
  | .enable => ⟨.op, [0xE]⟩
  | .disable => ⟨.op, [0xF]⟩
  | .evtMotionData v => ⟨.md, motionPayload v⟩
  | .evtMotionMode m => ⟨.mm, modePayload m⟩
  | .cmdSetMode m => ⟨.mc, modePayload m⟩

/-! ### The operation table -/

/-- A row of the operation table: its match and mask, read as one number whose leftmost byte is byte 0. -/
structure TableRow where
  mnemonic : String
  format   : Format
  nbytes   : Nat
  pattern  : Nat
  mask     : Nat
deriving DecidableEq, Repr

/-- The row each operation stands in, with the table's mnemonic, match and mask; a 4-bit selector stands in the low half of
one byte (R62). -/
def rowOf : Instr → TableRow
  | .reset => ⟨"RESET", .op, 1, 0x0, 0xF⟩
  | .irq => ⟨"IRQ", .op, 1, 0x1, 0xF⟩
  | .setmode _ _ _ => ⟨"SETMODE", .op, 1, 0x2, 0xF⟩
  | .poll => ⟨"POLL", .op, 1, 0x3, 0xF⟩
  | .lclr => ⟨"LCLR", .op, 1, 0x4, 0xF⟩
  | .rdsens => ⟨"RDSENS", .op, 1, 0x5, 0xF⟩
  | .shadow => ⟨"SHADOW", .op, 1, 0x6, 0xF⟩
  | .ema => ⟨"EMA", .op, 1, 0x7, 0xF⟩
  | .fclr => ⟨"FCLR", .op, 1, 0x8, 0xF⟩
  | .fstep => ⟨"FSTEP", .op, 1, 0x9, 0xF⟩
  | .encmd => ⟨"ENCMD", .op, 1, 0xA, 0xF⟩
  | .encmm _ => ⟨"ENCMM", .op, 1, 0xB, 0xF⟩
  | .gate _ _ => ⟨"GATE", .op, 1, 0xC, 0xF⟩
  | .put16le _ _ => ⟨"PUT16LE", .op, 1, 0xD, 0xF⟩
  | .enable => ⟨"ENABLE", .op, 1, 0xE, 0xF⟩
  | .disable => ⟨"DISABLE", .op, 1, 0xF, 0xF⟩
  | .evtMotionData _ =>
    ⟨"EVT_MOTION_DATA", .md, 15, 0x00030C000000000000000000000000, 0xFFFFFF000000000000000000000000⟩
  | .evtMotionMode _ => ⟨"EVT_MOTION_MODE", .mm, 2, 0x0000, 0xFFFE⟩
  | .cmdSetMode _ => ⟨"CMD_SET_MODE", .mc, 2, 0x0000, 0xFFFE⟩

/-- Bytes read as one number, byte 0 leftmost (the table's own order). -/
def bytesToNat (bytes : List Byte) : Nat :=
  bytes.foldl (fun n b => n * 256 + b.toNat) 0

/-- A packet matches a row: same format, and the row's fixed bits stand in its leading bytes. -/
def TableRow.matchesPacket (r : TableRow) (p : Packet) : Bool :=
  decide (p.format = r.format) && decide (r.nbytes ≤ p.bytes.length) &&
    decide (bytesToNat (p.bytes.take r.nbytes) &&& r.mask = r.pattern)

/-! ### A table word (entry 9) -/

/-- `n` bytes of `w`, the most significant first: the table puts byte 0 leftmost. -/
def wordBytes : Nat → Nat → List Byte
  | 0, _ => []
  | n + 1, w => BitVec.ofNat 8 (w / 256 ^ n) :: wordBytes n w

/-- How many operand bytes stand behind a selector (entry 8); GATE's are those of a motion-data payload. -/
def operandBytes (selector : Nat) : Nat :=
  match selector with
  | 0x2 => 3
  | 0xB => 1
  | 0xC => 13
  | 0xD => 3
  | _ => 0

/-- The packet of a word of the table: one byte is a selector, its operand bytes zero; two bytes are the format the block
accepts, MC; fifteen are MD. Any other width is no row. -/
def packetOfWord (nbits w : Nat) : Packet :=
  match nbits with
  | 4 => ⟨.op, BitVec.ofNat 8 w :: List.replicate (operandBytes w) 0⟩
  | 8 => ⟨.op, BitVec.ofNat 8 w :: List.replicate (operandBytes w) 0⟩
  | 16 => ⟨.mc, wordBytes 2 w⟩
  | 120 => ⟨.md, wordBytes 15 w⟩
  | _ => ⟨.op, []⟩

/-- The operation the decoder reads from a word of the table. -/
def decodeTableWord (nbits w : Nat) : Option Instr :=
  match decode (packetOfWord nbits w) with
  | .ok i => some i
  | .error _ => none

end Sys2Proof
end

