-- ==== Sys2Proof/Machine/State.lean ====
section
/-! DEFINITION. The machine's state as plain data, the reasons a step stops, and the state after reset. -/

namespace Sys2Proof.Machine

/-- A register: its 16 bits, and whether anything has written it since the last RESET (R10, R24). `written` changes no
operation's effect (entry 2). -/
structure Reg where
  value   : S16
  written : Bool
deriving DecidableEq, Repr, Inhabited

/-- A byte space: listed cells in rising order of address; an unlisted cell holds no byte (R30; entry 11). -/
abbrev Memory := List Host.Cell

/-- An output event other than a payload (R8, R20). -/
inductive CtlEvent where
  | sensorSleep (asleep : Bool)
  | irqPath (open_ : Bool)
deriving DecidableEq, Repr

/-- The parameter `observer` as plain data (R5, R115, R116; entry 4). -/
inductive Observer where
  /-- No observer is registered. -/
  | absent
  /-- A total function of the event's fields: the first row that lists the fields answers, else `otherwise`. -/
  | function (rows : List (EventFields × Bool)) (otherwise : Bool)
  /-- An observer with memory: one answer per call; a call past the list gets a free value. -/
  | answers (perCall : List Bool)
deriving DecidableEq, Repr

/-- Why the machine stops with a fault. -/
inductive Fault where
  /-- Raised by PUT16LE when PAY has no cell at the index or at the one after it (R30: cells 0 to 14). The spec gives
  PUT16LE no such index (R105), so no packet decodes to it. Safe: the machine stops. -/
  | noSuchPayloadCell (index : Nat)
deriving DecidableEq, Repr

/-- What the polling context has still to do of the top-level operation it has begun: its micro-operations (R62), and the
lines of their pseudocode that are no operation of the table (entry 18). -/
inductive Task where
  /-- A micro-operation, or the outgoing event GATE emits. -/
  | op (i : Instr)
  /-- POLL after LCLR: return if nothing was pending, else RDSENS, FSTEP, ENCMD, GATE (R120). -/
  | pollRest
  /-- GATE of the payload that was just built (R120, R72). -/
  | gateBuilt (kind : EventKind)
deriving DecidableEq, Repr

/-- Model's own: whose turn the next step is and how coarse it is (entry 18). -/
inductive Turn where
  /-- The polling context goes on and performs its next operation whole. -/
  | whole
  /-- The polling context goes on and begins its next operation, which is then performed part by part. -/
  | parts
  /-- The outside's turn: inside an operation an IRQ or RESET asked for next takes effect, and else nothing happens, the
  polling context waiting for a collaborator (R38, R45). -/
  | outside
deriving DecidableEq, Repr

/-- Why an operation is given no meaning. -/
inductive Refusal where
  /-- Raised by `exec` for an operation that has no meaning yet. Safe: the machine stops. -/
  | notModelled (mnemonic : String)
  /-- Raised by SETMODE, and by a mode command packet, with a sensor id other than 0x00 or a mode above 0x01 (R78, R60):
  "The model marks the run as refused". Safe: the machine stops. -/
  | undefinedModeRequest
  /-- Raised by GATE for bytes that are no payload of the given kind (R60, U16: "gives such a payload no meaning").
  Safe: the machine stops. -/
  | payloadOutsideFormat
  /-- Raised by the step for a micro-operation, or an outgoing event, that is asked for from outside (R62: "micro-operations
  happen only inside a top-level operation"). Safe: the machine stops. -/
  | onlyInsideAnOperation
  /-- Raised by the step for bytes that are no packet of the block. Safe: the machine stops. -/
  | undecodable (why : DecodeError)
deriving DecidableEq, Repr

structure State where
  /-- RAW[0..5] = x[0..5]: aaRaw, gvRaw (R10, R12). -/
  raw       : Lanes Reg
  /-- FILT[0..5] = x[6..11]: aa, gv (R10, R13). -/
  filt      : Lanes Reg
  /-- SHAD[0..5] = x[12..17]: aa0, gv0 (R10, R14). -/
  shad      : Lanes Reg
  /-- LATCH (R16). -/
  latch     : Bool
  /-- MODE (R17). -/
  mode      : Mode
  /-- PAY[0..14]: the motion-data payload space (R30). -/
  pay       : Memory
  /-- MPAY[0..1]: the mode-change payload space (R30). -/
  mpay      : Memory
  /-- TX: what was handed to the transport collaborator, oldest first (R20). -/
  tx        : List (EventKind × List Byte)
  /-- CTL: the SensorSleep and IrqPath events, oldest first (R20). -/
  ctl       : List CtlEvent
  /-- The value that the last LCLR performed as a micro-operation returned (R121; entry 12); the rest of its POLL reads it. -/
  pending   : Bool
  /-- The parameter TRUNC_MODE (R5, R95); no operation changes it (R25). -/
  truncMode : TruncMode
  /-- The parameter `observer` (R5, R116); RESET does not change it (R25). -/
  observer  : Observer
  /-- The parameter `sensor`: the answers the next burst reads get, then free values (R5, R85; entry 5). -/
  sensor    : List Sample
  /-- Model's own: the index of the next free value (entry 6). -/
  draws     : Nat
  /-- Model's own: the operations asked for from outside and not yet performed, in order (entry 7). No program store (R44). -/
  input     : List Packet
  /-- Model's own: what is left of the top-level operation in progress, in its rule's order; empty between operations, where
  the block keeps no sequencing state (R18, R62; entry 18). -/
  inside    : List Task
  /-- Model's own: whose turns the next steps are; past the end of the list, `whole` (entry 18). -/
  turns     : List Turn
deriving DecidableEq, Repr

/-- Six unwritten registers, `x[base]` to `x[base + 5]`: no defined value (R24; entry 1). -/
def unwrittenRegs (draw : Nat) (base : Fin 13) : Lanes Reg :=
  Lanes.ofFn fun k => ⟨Config.unwrittenValue draw ⟨base.val + k.val, by omega⟩, false⟩

/-- The machine right after reset (R23, R24, R25, R150). The parameters are the spec's default (R5) or the values of
entries 3 to 7 and 18. -/
def State.reset : State where
  raw       := unwrittenRegs 0 0
  filt      := unwrittenRegs 0 6
  shad      := unwrittenRegs 0 12
  latch     := false
  mode      := .disabled
  pay       := []
  mpay      := []
  tx        := []
  ctl       := []
  pending   := false
  truncMode := .towardZero
  observer  := .absent
  sensor    := []
  draws     := 1
  input     := []
  inside    := []
  turns     := []

end Sys2Proof.Machine
end

