-- ==== Sys2Proof/Machine/Ops.lean ====
section
/-! DEFINITION. The named operations over registers, payload spaces, logs and collaborators, and the taking of the interrupt
(R7, R8, R30, R135). -/

namespace Sys2Proof.Machine

/-! ### Registers (R7, R10) -/

/-- A register after `v` was written to it. -/
def Reg.wrote (v : S16) : Reg := ⟨v, true⟩

/-- `x[i]`: register `i` of the file, RAW then FILT then SHAD (R7, R10). -/
def State.x (s : State) (i : Fin 18) : Reg :=
  if h : i.val < 6 then s.raw.get ⟨i.val, h⟩
  else if h' : i.val < 12 then s.filt.get ⟨i.val - 6, by omega⟩
  else s.shad.get ⟨i.val - 12, by omega⟩

/-- The values of six registers. -/
def regValues (r : Lanes Reg) : Sample := r.map Reg.value

/-- Six registers after six values were written to them. -/
def wroteLanes (v : Sample) : Lanes Reg := v.map Reg.wrote

/-- Every register of the group has been written. -/
def allWritten (r : Lanes Reg) : Bool :=
  r.ax.written && r.ay.written && r.az.written && r.gx.written && r.gy.written && r.gz.written

def State.setRaw (s : State) (r : Lanes Reg) : State := { s with raw := r }
def State.setFilt (s : State) (r : Lanes Reg) : State := { s with filt := r }
def State.setShad (s : State) (r : Lanes Reg) : State := { s with shad := r }

/-! ### The payload spaces (R30) -/

/-- The byte of a cell; an unlisted cell holds none (entry 11). -/
def Memory.read : Memory → Nat → Option Byte
  | [], _ => none
  | (c, b) :: rest, a => if a = c then some b else Memory.read rest a

/-- Write one byte, keeping the cells in rising order. -/
def Memory.write : Memory → Nat → Byte → Memory
  | [], a, b => [(a, b)]
  | (c, x) :: rest, a, b =>
    if a < c then (a, b) :: (c, x) :: rest
    else if a = c then (a, b) :: rest
    else (c, x) :: Memory.write rest a b

/-- The cells stand in strictly rising order and lie in `lo ≤ a < hi`. -/
def Memory.within : Nat → Nat → Memory → Bool
  | _, _, [] => true
  | lo, hi, (a, _) :: rest => decide (lo ≤ a) && decide (a < hi) && Memory.within (a + 1) hi rest

/-- The canonical form of a space of `size` cells. -/
def Memory.wf (size : Nat) (m : Memory) : Bool := Memory.within 0 size m

/-- The bytes of the listed cells, in order of index: a finished payload as it is handed on (R106, R109). -/
def Memory.bytes (m : Memory) : List Byte := m.map Prod.snd

def State.setPay (s : State) (m : Memory) : State := { s with pay := m }
def State.setMpay (s : State) (m : Memory) : State := { s with mpay := m }

/-! ### Logs (R20) -/

/-- `Emit(kind, bytes)`: hand a finished payload to the transport collaborator (R8). -/
def State.emit (s : State) (kind : EventKind) (bytes : List Byte) : State :=
  { s with tx := s.tx ++ [(kind, bytes)] }

/-- `SensorSleep(b)` or `IrqPath(b)` (R8). -/
def State.control (s : State) (e : CtlEvent) : State :=
  { s with ctl := s.ctl ++ [e] }

/-! ### Collaborators (R8) -/

def State.setSensor (s : State) (answers : List Sample) : State := { s with sensor := answers }
def State.setObserver (s : State) (o : Observer) : State := { s with observer := o }
def State.setInput (s : State) (ps : List Packet) : State := { s with input := ps }
def State.nextDraw (s : State) : State := { s with draws := s.draws + 1 }

/-- `SensorBurstRead()`: the oracle's next answer, a free value where the state lists none (R8, R85). -/
def State.burstRead (s : State) : Sample × State :=
  match s.sensor with
  | v :: rest => (v, s.setSensor rest)
  | [] => (Config.sensorAnswer s.draws, s.nextDraw)

/-- The answer of a total function of the fields given by rows and a default. -/
def answerOf (rows : List (EventFields × Bool)) (otherwise : Bool) (f : EventFields) : Bool :=
  match rows with
  | [] => otherwise
  | (g, b) :: rest => if g = f then b else answerOf rest otherwise f

/-- `Observe(fields)`: whether to skip; false when the observer is absent (R8, R115, R116). -/
def State.observe (s : State) (f : EventFields) : Bool × State :=
  match s.observer with
  | .absent => (false, s)
  | .function rows otherwise => (answerOf rows otherwise f, s)
  | .answers (b :: rest) => (b, s.setObserver (.answers rest))
  | .answers [] => (Config.observerAnswer s.draws f, s.nextDraw)

/-- The body of GATE: offer the fields to the observer, then emit the payload or drop it (R115). -/
def State.offer (s : State) (kind : EventKind) (payload : List Byte) (f : EventFields) : State :=
  bif (s.observe f).1 then (s.observe f).2 else (s.observe f).2.emit kind payload

/-! ### Taking the interrupt, the block's only entry of that kind (R130, R135)

There is no exception to take and nothing to return from: nothing is saved, no mode or mask changes, control goes nowhere,
and the step is over when LATCH is written (R135, R136). -/

/-- What an accepted data-ready edge does: `LATCH <- true` and nothing else (R70, R135). -/
def State.takeInterrupt (s : State) : State := { s with latch := true }

/-! ### Fetching the next operation (entries 7, 18) -/

def State.setInside (s : State) (ts : List Task) : State := { s with inside := ts }
def State.setTurns (s : State) (us : List Turn) : State := { s with turns := us }

/-- The parts of an operation that has begun come before what is left of the operation around it. -/
def State.pushInside (s : State) (ts : List Task) : State := s.setInside (ts ++ s.inside)

/-- Whose turn the next step is. -/
def State.turn (s : State) : Turn := s.turns.head?.getD .whole

def State.nextTurn (s : State) : State := s.setTurns s.turns.tail

/-- The operation that is asked for next, and the state without it. -/
def State.nextPacket (s : State) : Option (Packet × State) :=
  match s.input with
  | [] => none
  | p :: rest => some (p, s.setInput rest)

/-- The refusal of bytes that are no packet. An undefined mode command is SETMODE's own refusal (R78). -/
def refusalOf : DecodeError → Refusal
  | .modeCommandUndefined => .undefinedModeRequest
  | e => .undecodable e

end Sys2Proof.Machine
end

