-- ==== Sys2Proof/Machine/Flags.lean ====
section
/-! DEFINITION. The two flags LATCH and MODE, their views, and every way an operation computes or writes them (R16, R17, R19). -/

namespace Sys2Proof.Machine

def State.setLatch (s : State) (b : Bool) : State := { s with latch := b }
def State.setMode (s : State) (m : Mode) : State := { s with mode := m }
def State.setPending (s : State) (b : Bool) : State := { s with pending := b }

/-- IE: the hardware interrupt path is enabled exactly when MODE = Enabled (R19); the level `irq_en` (R163). -/
def State.ie (s : State) : Bool := decide (s.mode = .enabled)

/-- The block's output level `sleep`: MODE = Disabled, at all times (R19, R163). -/
def State.sleepLevel (s : State) : Bool := decide (s.mode = .disabled)

/-- Fold of a log of control events for the last level a family of events set. -/
def lastEvent (pick : CtlEvent → Option Bool) (log : List CtlEvent) : Option Bool :=
  log.foldl (fun acc e => (pick e).or acc) none

/-- SLEEP, as a statement about the sensor: the level of the last SensorSleep event since reset, and undefined before the
first. R19 and R138 define it from the first SETMODE on; whether a first SETMODE to Disabled, which outputs nothing (R76),
already defines it they leave open: here it does not (DESIGN CHOICE, entry 31). -/
def State.sensorAsleep (s : State) : Option Bool :=
  lastEvent (fun e => match e with | .sensorSleep b => some b | .irqPath _ => none) s.ctl

/-- The last level the interrupt hardware was told (R140). -/
def State.irqPathOpen (s : State) : Option Bool :=
  lastEvent (fun e => match e with | .irqPath b => some b | .sensorSleep _ => none) s.ctl

/-- The test and clear of LATCH, one indivisible action: the value read, and the state after it (R43, R121). -/
def State.testAndClear (s : State) : Bool × State :=
  (s.latch, bif s.latch then s.setLatch false else s)

end Sys2Proof.Machine
end

