-- ==== Sys2Proof/Machine/Operands.lean ====
section
/-! DEFINITION. The operand forms: a mode request's bytes, a payload index, a payload and its semantic fields
(R72, R105, R115, R116). -/

namespace Sys2Proof.Machine

/-- The mode a request names, if its operands are defined (R72, first two lines; R78). -/
def modeRequest (sensorId mode : Byte) : Option Mode :=
  if sensorId = Config.sensorIndex then modeOfByte mode else none

/-- What the observer is shown of a motion-data event (R116). -/
def motionFields (v : Sample) : EventFields :=
  .motionData Config.sensorIndex Config.channelMask Config.byteCount v

/-- What the observer is shown of a mode-change event (R116). -/
def modeFields (m : Mode) : EventFields := .modeChange Config.sensorIndex m

/-- `fields(kind, payload)`: the unpacked semantic fields; bytes that are no payload of the kind have none (R115, R116, U16). -/
def fieldsOf (kind : EventKind) (payload : List Byte) : Option EventFields :=
  match kind with
  | .motionData => (unpackMotion payload).map motionFields
  | .modeChange => (unpackMode payload).map modeFields

/-- PAY has the cells `i` and `i + 1` that PUT16LE writes (R30, R105). -/
def payloadCellsExist (i : Nat) : Bool := decide (i + 1 < Config.mdLen)

end Sys2Proof.Machine
end

