-- ==== Sys2Proof/Machine/Latch.lean ====
section
/-! DEFINITION. The Interrupt Latch: IRQ and LCLR (R70, R121). -/

namespace Sys2Proof.Machine

/-- IRQ: the data-ready interrupt. Accepted only while IE; an edge that finds the path closed is lost (R70, R71, R133). -/
def execIrq (s : State) : Host.Outcome State Fault Refusal :=
  .next (bif s.ie then s.takeInterrupt else s)

/-- LCLR: test and clear the Latch; its result is kept in `pending` (R121; entry 12). -/
def execLclr (s : State) : Host.Outcome State Fault Refusal :=
  .next (s.testAndClear.2.setPending s.testAndClear.1)

end Sys2Proof.Machine
end

