-- ==== Sys2Proof/Machine/Encoder.lean ====
section
/-! DEFINITION. The Event Encoder: PUT16LE, ENCMD, ENCMM (R105 to R111). -/

namespace Sys2Proof.Machine

/-- `PAY[i] <- p[7:0]`, then `PAY[i+1] <- p[15:8]` (R105). -/
def Memory.put16le (m : Memory) (i : Nat) (v : S16) : Memory :=
  (m.write i (lowByte v)).write (i + 1) (highByte v)

/-- A fresh PAY with its three constant bytes (R106, first three lines; R37). -/
def payHeader : Memory :=
  ((Memory.write [] 0 Config.sensorIndex).write 1 Config.channelMask).write 2 Config.byteCount

/-- PAY as ENCMD builds it from the filtered values (R106, R107). -/
def payOf (v : Sample) : Memory :=
  (((((payHeader.put16le (sampleIndex 0) v.ax).put16le (sampleIndex 1) v.ay).put16le (sampleIndex 2) v.az).put16le
    (sampleIndex 3) v.gx).put16le (sampleIndex 4) v.gy).put16le (sampleIndex 5) v.gz

/-- MPAY as ENCMM builds it (R109, R37). -/
def mpayOf (new : Mode) : Memory :=
  (Memory.write [] 0 Config.sensorIndex).write 1 (modeByte new)

/-- ENCMD: the payload is built whole in a fresh PAY (R106, R111). -/
def State.buildMotion (s : State) : State := s.setPay (payOf (regValues s.filt))

/-- ENCMM: the payload is built whole in a fresh MPAY (R109, R111). -/
def State.buildMode (s : State) (new : Mode) : State := s.setMpay (mpayOf new)

/-- PUT16LE, into the payload under construction (R105). -/
def execPut16le (i : Nat) (v : S16) (s : State) : Host.Outcome State Fault Refusal :=
  bif payloadCellsExist i then .next (s.setPay (s.pay.put16le i v)) else .fault (.noSuchPayloadCell i)

/-- ENCMD (R106). -/
def execEncmd (s : State) : Host.Outcome State Fault Refusal :=
  .next s.buildMotion

/-- ENCMM (R109). -/
def execEncmm (new : Mode) (s : State) : Host.Outcome State Fault Refusal :=
  .next (s.buildMode new)

end Sys2Proof.Machine
end

