-- ==== Sys2Proof/Machine/Filter.lean ====
section
/-! DEFINITION. The Smoothing Filter: FCLR, SHADOW, EMA, FSTEP, and the filter's arithmetic (R90 to R103). -/

namespace Sys2Proof.Machine

/-- `trunc4_M(n)`: with `n = 4*q + r` and `0 ≤ r ≤ 3`, toward negative infinity gives `q`; toward zero gives `q` when
`n ≥ 0` or `r = 0`, and `q + 1` otherwise (R94). -/
def trunc4 (mode : TruncMode) (n : Int) : Int :=
  match mode with
  | .towardNegInf => n / 4
  | .towardZero => if 0 ≤ n ∨ n % 4 = 0 then n / 4 else n / 4 + 1

/-- One lane of EMA over integers: `d = raw - prev`, never wrapped; `n = 4*prev + d`; the fraction of `n/4` discarded (R92). -/
def emaInt (mode : TruncMode) (prev raw : Int) : Int :=
  trunc4 mode (4 * prev + (raw - prev))

/-- One lane of EMA over the register contents. The result is in the s16 range (R97), so `pat16` loses nothing. -/
def emaLane (mode : TruncMode) (prev raw : S16) : S16 :=
  pat16 (emaInt mode prev.toInt raw.toInt)

/-- The hardware datapath for one lane: 18-bit two's complement, an arithmetic shift, bits 17 to 2 (R93). -/
def emaDatapath (mode : TruncMode) (prev raw : S16) : S16 :=
  let p : BitVec 18 := prev.signExtend 18
  let r : BitVec 18 := raw.signExtend 18
  let n : BitVec 18 := (p <<< 2) + (r - p)
  let c : BitVec 18 :=
    match mode with
    | .towardNegInf => 0
    | .towardZero => if n.msb then 3 else 0
  ((n + c).sshiftRight 2).setWidth 16

/-- `FILT[k] <- 0` for every lane (R90). -/
def State.clearFilter (s : State) : State :=
  s.setFilt (wroteLanes ⟨0, 0, 0, 0, 0, 0⟩)

/-- `SHAD[k] <- FILT[k]` for every lane (R91). -/
def State.shadowCopy (s : State) : State :=
  s.setShad (wroteLanes (regValues s.filt))

/-- `FILT[k] <- trunc4_M(4*SHAD[k] + (RAW[k] - SHAD[k]))` for every lane (R92). -/
def State.emaUpdate (s : State) : State :=
  s.setFilt (wroteLanes (Lanes.zipWith (emaLane s.truncMode) (regValues s.shad) (regValues s.raw)))

/-- SHADOW then EMA: every copy is made before any lane's new value is stored (R99, R157). -/
def State.filterStep (s : State) : State := s.shadowCopy.emaUpdate

/-- FCLR (R90). -/
def execFclr (s : State) : Host.Outcome State Fault Refusal :=
  .next s.clearFilter

/-- SHADOW (R91). -/
def execShadow (s : State) : Host.Outcome State Fault Refusal :=
  .next s.shadowCopy

/-- EMA (R92). -/
def execEma (s : State) : Host.Outcome State Fault Refusal :=
  .next s.emaUpdate

/-- FSTEP (R99). -/
def execFstep (s : State) : Host.Outcome State Fault Refusal :=
  .next s.filterStep

end Sys2Proof.Machine
end

