-- ==== Sys2Proof/Machine/Gate.lean ====
section
/-! DEFINITION. The Event Dispatch Gate: GATE (R115 to R118). -/

namespace Sys2Proof.Machine

/-- GATE: offer the payload's fields to the observer, then emit the payload unchanged or drop it (R115). Bytes that are no
payload of the kind have no fields (U16; entry 13). -/
def execGate (kind : EventKind) (payload : List Byte) (s : State) : Host.Outcome State Fault Refusal :=
  match fieldsOf kind payload with
  | some f => .next (s.offer kind payload f)
  | none => .refused .payloadOutsideFormat

end Sys2Proof.Machine
end

