-- ==== Sys2Proof/Machine/Sensor.lean ====
section
/-! DEFINITION. The Sensor Reader at its boundary: RDSENS (R85). -/

namespace Sys2Proof.Machine

/-- One burst read into RAW, all six lanes of one answer; no status, no test, not gated by MODE (R85, R87, R88). -/
def State.readSensor (s : State) : State :=
  s.burstRead.2.setRaw (wroteLanes s.burstRead.1)

/-- RDSENS (R85). -/
def execRdsens (s : State) : Host.Outcome State Fault Refusal :=
  .next s.readSensor

end Sys2Proof.Machine
end

