-- ==== Sys2Proof/Machine/Poll.lean ====
section
/-! DEFINITION. The POLL sequence (R120 to R124). -/

namespace Sys2Proof.Machine

/-- ENCMD and then GATE on the bytes ENCMD returned (R120, last two lines). -/
def State.sendMotion (s : State) : State :=
  s.buildMotion.offer .motionData (motionPayload (regValues s.filt)) (motionFields (regValues s.filt))

/-- RDSENS, FSTEP, ENCMD, GATE, in that order (R120). -/
def State.pollSequence (s : State) : State := s.readSensor.filterStep.sendMotion

/-- One pass of the main loop: LCLR, then the sequence if the Latch was true (R120). Not gated by MODE (R123). -/
def State.pollPass (s : State) : State :=
  bif s.testAndClear.1 then s.testAndClear.2.pollSequence else s.testAndClear.2

/-- POLL, one indivisible step (R120, R122). -/
def execPoll (s : State) : Host.Outcome State Fault Refusal :=
  .next s.pollPass

end Sys2Proof.Machine
end

