-- ==== Sys2Proof/Machine/Reset.lean ====
section
/-! DEFINITION. RESET (R150). -/

namespace Sys2Proof.Machine

/-- What RESET makes of a state: the registers become unwritten, the logs start empty, no payload is left, an operation in
progress is abandoned; the parameters and what the outside world has asked for stay (R24, R25, R150; entries 1, 28). -/
def State.resetBlock (s : State) : State :=
  { s with
    raw     := unwrittenRegs s.draws 0
    filt    := unwrittenRegs s.draws 6
    shad    := unwrittenRegs s.draws 12
    latch   := false
    mode    := .disabled
    pay     := []
    mpay    := []
    tx      := []
    ctl     := []
    pending := false
    inside  := []
    draws   := s.draws + 1 }

/-- RESET: no SensorSleep or IrqPath event is output (R150). -/
def execReset (s : State) : Host.Outcome State Fault Refusal :=
  .next s.resetBlock

end Sys2Proof.Machine
end

