-- ==== Sys2Proof/Machine/ModeControl.lean ====
section
/-! DEFINITION. The Mode Controller: SETMODE, ENABLE, DISABLE (R72 to R78). -/

namespace Sys2Proof.Machine

/-- The transition Disabled to Enabled: FCLR, then the other lines, in the order the spec lists (R73). -/
def State.enablePath (s : State) : State :=
  (((s.clearFilter.setLatch true).setMode .enabled).control (.irqPath true)).control (.sensorSleep false)

/-- The transition Enabled to Disabled, in the order the spec lists; LATCH is not written (R74). -/
def State.disablePath (s : State) : State :=
  (((s.control (.sensorSleep true)).setMode .disabled).control (.irqPath false))

/-- ENABLE or DISABLE, whichever leads to `new` (R72). -/
def State.transition (s : State) (new : Mode) : State :=
  match new with
  | .enabled => s.enablePath
  | .disabled => s.disablePath

/-- Build and offer the mode-change event (R77). -/
def State.announce (s : State) (new : Mode) : State :=
  (s.buildMode new).offer .modeChange (modePayload new) (modeFields new)

/-- SETMODE once its operands are known to be defined: nothing for the mode already in force (R76), else the transition,
then the event unless a command asked for it (R72, R77). -/
def State.changeMode (s : State) (origin : Origin) (new : Mode) : State :=
  if new = s.mode then s
  else
    match origin with
    | .api => (s.transition new).announce new
    | .command => s.transition new

/-- The body of SETMODE (R72, R78). -/
def requestMode (origin : Origin) (sensorId mode : Byte) (s : State) : Host.Outcome State Fault Refusal :=
  match modeRequest sensorId mode with
  | some new => .next (s.changeMode origin new)
  | none => .refused .undefinedModeRequest

/-- SETMODE (R72). -/
def execSetmode (origin : Origin) (sensorId mode : Byte) (s : State) : Host.Outcome State Fault Refusal :=
  requestMode origin sensorId mode s

/-- ENABLE (R73), performed as it stands: it is SETMODE that tests MODE (entry 18). -/
def execEnable (s : State) : Host.Outcome State Fault Refusal :=
  .next s.enablePath

/-- DISABLE (R74), performed as it stands (entry 18). -/
def execDisable (s : State) : Host.Outcome State Fault Refusal :=
  .next s.disablePath

end Sys2Proof.Machine
end

