-- ==== Sys2Proof/Machine/Wire.lean ====
section
/-! DEFINITION. The three wire formats as events on the block's boundary (R50): the two outgoing payloads are handed to the
transport collaborator (R8, R20; entry 10), the mode command is received (R57, R72). -/

namespace Sys2Proof.Machine

/-- EVT_MOTION_DATA: a format MD payload leaves the block (R51, R8). -/
def execEvtMotionData (samples : Sample) (s : State) : Host.Outcome State Fault Refusal :=
  .next (s.emit .motionData (motionPayload samples))

/-- EVT_MOTION_MODE: a format MM payload leaves the block (R56, R8). -/
def execEvtMotionMode (mode : Mode) (s : State) : Host.Outcome State Fault Refusal :=
  .next (s.emit .modeChange (modePayload mode))

/-- CMD_SET_MODE: a format MC packet is SETMODE with origin Command (R57, R72). -/
def execCmdSetMode (mode : Mode) (s : State) : Host.Outcome State Fault Refusal :=
  requestMode .command Config.sensorIndex (modeByte mode) s

end Sys2Proof.Machine
end

