-- ==== Sys2Proof/Machine/Dispatch.lean ====
section
/-! DEFINITION. One arm for each operation. -/

namespace Sys2Proof.Machine

def exec (i : Instr) (s : State) : Host.Outcome State Fault Refusal :=
  match i with
  | .reset => Sys2Proof.Machine.execReset s
  | .irq => Sys2Proof.Machine.execIrq s
  | .setmode origin sensorId mode => Sys2Proof.Machine.execSetmode origin sensorId mode s
  | .poll => Sys2Proof.Machine.execPoll s
  | .lclr => Sys2Proof.Machine.execLclr s
  | .rdsens => Sys2Proof.Machine.execRdsens s
  | .shadow => Sys2Proof.Machine.execShadow s
  | .ema => Sys2Proof.Machine.execEma s
  | .fclr => Sys2Proof.Machine.execFclr s
  | .fstep => Sys2Proof.Machine.execFstep s
  | .encmd => Sys2Proof.Machine.execEncmd s
  | .encmm new => Sys2Proof.Machine.execEncmm new s
  | .gate kind payload => Sys2Proof.Machine.execGate kind payload s
  | .put16le index v => Sys2Proof.Machine.execPut16le index v s
  | .enable => Sys2Proof.Machine.execEnable s
  | .disable => Sys2Proof.Machine.execDisable s
  | .evtMotionData samples => Sys2Proof.Machine.execEvtMotionData samples s
  | .evtMotionMode mode => Sys2Proof.Machine.execEvtMotionMode mode s
  | .cmdSetMode mode => Sys2Proof.Machine.execCmdSetMode mode s

end Sys2Proof.Machine
end

