-- ==== Sys2Proof/Machine/Sequence.lean ====
section
/-! DEFINITION. Which operations the outside can cause, and how an operation that has begun is performed part by part, in the
fixed order its rule gives (R62, R38, R45; entry 18). -/

namespace Sys2Proof.Machine

/-- The operations the outside world can cause; the others happen inside one of these, or are outgoing (R62, R57). -/
def isTopLevel : Instr → Bool
  | .reset => true
  | .irq => true
  | .setmode _ _ _ => true
  | .poll => true
  | .cmdSetMode _ => true
  | .lclr => false
  | .rdsens => false
  | .shadow => false
  | .ema => false
  | .fclr => false
  | .fstep => false
  | .encmd => false
  | .encmm _ => false
  | .gate _ _ => false
  | .put16le _ _ => false
  | .enable => false
  | .disable => false
  | .evtMotionData _ => false
  | .evtMotionMode _ => false

/-- The operation that leads into a mode (R72). -/
def transitionOp : Mode → Instr
  | .enabled => .enable
  | .disabled => .disable

/-- The outgoing event that carries an event's fields (R51, R56, R116). -/
def eventOf : EventFields → Instr
  | .motionData _ _ _ v => .evtMotionData v
  | .modeChange _ m => .evtMotionMode m

/-- PUT16LE(3 + 2k, v_k) for k from 0 to 5 (R106). -/
def putTasks (v : Sample) : List Task :=
  [.op (.put16le (sampleIndex 0) v.ax), .op (.put16le (sampleIndex 1) v.ay), .op (.put16le (sampleIndex 2) v.az),
    .op (.put16le (sampleIndex 3) v.gx), .op (.put16le (sampleIndex 4) v.gy), .op (.put16le (sampleIndex 5) v.gz)]

/-- SETMODE's last lines: the event, unless a command asked for the change (R72, R77). -/
def announceTasks (origin : Origin) (new : Mode) : List Task :=
  match origin with
  | .api => [.op (.encmm new), .gateBuilt .modeChange]
  | .command => []

/-- SETMODE begins: nothing to open for undefined operands or the mode in force (R72, R76, R78). -/
def beginMode (origin : Origin) (request : Option Mode) (s : State) : Option (State × List Task) :=
  match request with
  | none => none
  | some new => if new = s.mode then none else some (s, .op (transitionOp new) :: announceTasks origin new)

/-- GATE begins: the observer is asked, and the Emit is left, if it is not skipped (R115). -/
def beginGate (kind : EventKind) (payload : List Byte) (s : State) : Option (State × List Task) :=
  match fieldsOf kind payload with
  | none => none
  | some f => some ((s.observe f).2, bif (s.observe f).1 then [] else [.op (eventOf f)])

/-- An operation begins: the state after the lines before its first part, and its parts in order; `none` for an operation that
has no part in the table, and for ENABLE and DISABLE, each one indivisible step (R75). -/
def begin (i : Instr) (s : State) : Option (State × List Task) :=
  match i with
  | .poll => some (s, [.op .lclr, .pollRest])
  | .setmode origin sensorId mode => beginMode origin (modeRequest sensorId mode) s
  | .cmdSetMode mode => beginMode .command (some mode) s
  | .fstep => some (s, [.op .shadow, .op .ema])
  | .encmd => some (s.setPay payHeader, putTasks (regValues s.filt))
  | .gate kind payload => beginGate kind payload s
  | .reset => none
  | .irq => none
  | .lclr => none
  | .rdsens => none
  | .shadow => none
  | .ema => none
  | .fclr => none
  | .encmm _ => none
  | .put16le _ _ => none
  | .enable => none
  | .disable => none
  | .evtMotionData _ => none
  | .evtMotionMode _ => none

/-- Perform an operation whole, or begin it. -/
def perform (i : Instr) (turn : Turn) (s : State) : Host.Outcome State Fault Refusal :=
  match turn with
  | .parts =>
    match begin i s with
    | some (t, parts) => .next (t.pushInside parts)
    | none => exec i s
  | .whole => exec i s
  | .outside => exec i s

/-- The bytes that ENCMD or ENCMM built (R106, R109). -/
def State.built (s : State) (kind : EventKind) : List Byte :=
  match kind with
  | .motionData => s.pay.bytes
  | .modeChange => s.mpay.bytes

/-- Perform what is next of the operation in progress. -/
def performTask (task : Task) (turn : Turn) (s : State) : Host.Outcome State Fault Refusal :=
  match task with
  | .op i => perform i turn s
  | .pollRest =>
    .next (bif s.pending then s.pushInside [.op .rdsens, .op .fstep, .op .encmd, .gateBuilt .motionData] else s)
  | .gateBuilt kind => perform (.gate kind (s.built kind)) turn s

/-- What can take effect inside an operation of the polling context: an IRQ (R38), and a reset. -/
def entersAnywhere : Instr → Bool
  | .reset => true
  | .irq => true
  | .setmode _ _ _ => false
  | .poll => false
  | .lclr => false
  | .rdsens => false
  | .shadow => false
  | .ema => false
  | .fclr => false
  | .fstep => false
  | .encmd => false
  | .encmm _ => false
  | .gate _ _ => false
  | .put16le _ _ => false
  | .enable => false
  | .disable => false
  | .evtMotionData _ => false
  | .evtMotionMode _ => false
  | .cmdSetMode _ => false

/-- Between operations: the next one asked for begins. One that happens only inside another is refused (R62). -/
def takeRequest (s : State) : Host.Outcome State Fault Refusal :=
  match s.nextPacket with
  | none => .next s
  | some (p, rest) =>
    match decode p with
    | .ok i => bif isTopLevel i then perform i s.turn rest.nextTurn else .refused .onlyInsideAnOperation
    | .error e => .refused (refusalOf e)

/-- Inside an operation, on the outside's turn: an IRQ or a reset that is asked for next takes effect, and nothing else does, so
no other operation of the polling context begins (R38, R45). -/
def takeInside (s : State) : Host.Outcome State Fault Refusal :=
  match s.nextPacket with
  | none => .next s.nextTurn
  | some (p, rest) =>
    match decode p with
    | .ok i => bif entersAnywhere i then exec i rest.nextTurn else .next s.nextTurn
    | .error _ => .next s.nextTurn

end Sys2Proof.Machine
end

