-- ==== Sys2Proof/Machine/Step.lean ====
section
/-! DEFINITION. One step: the next operation asked for, or the next part of the one in progress (entries 7, 18). -/

namespace Sys2Proof.Machine

/-- One step. With nothing asked for and nothing in progress, nothing happens: the block keeps no sequencing state (R18). -/
def step (s : State) : Host.Outcome State Fault Refusal :=
  match s.inside with
  | [] => takeRequest s
  | task :: rest =>
    match s.turn with
    | .outside => takeInside s
    | .whole => performTask task .whole (s.setInside rest).nextTurn
    | .parts => performTask task .parts (s.setInside rest).nextTurn

/-- The state in which a packet is asked for next, with no operation in progress. -/
def State.askedNext (s : State) (p : Packet) : State := (s.setInput (p :: s.input)).setInside []

/-- The state in which a word of the table is performed next, and whole: asked for from outside between two operations, or,
where the outside cannot ask for it, the next part of an operation in progress (entries 7, 9, 18). -/
def State.withFetchWord (s : State) (nbits w : Nat) : State :=
  (match decodeTableWord nbits w with
  | some i => bif isTopLevel i then s.askedNext (packetOfWord nbits w) else s.pushInside [.op i]
  | none => s.askedNext (packetOfWord nbits w)).setTurns (.whole :: s.turns)

end Sys2Proof.Machine
end

