-- ==== Sys2Proof/Machine/Signals.lean ====
section
/-! DEFINITION. The signal-level interface: what each signal carries (R163). `exec` works at the level of operations and
does not use it; the levels and packings are the spec's own naming (D20; entry 29). -/

namespace Sys2Proof.Machine

/-- `rst`: RESET while asserted (R163). -/
def opsOfRst (asserted : Bool) : List Instr := if asserted then [.reset] else []

/-- `poll`: one POLL per assertion (R163), which `step` begins only when no POLL or SETMODE is in progress. -/
def opsOfPoll (asserted : Bool) : List Instr := if asserted then [.poll] else []

/-- `drdy_n`: a falling edge is one IRQ (R163). -/
def opsOfDrdy (before now : Bool) : List Instr := if before && !now then [.irq] else []

/-- `cmd_valid`, `cmd_origin`, `cmd_sensor`, `cmd_mode`: SETMODE; origin 0 is Api, 1 is Command (R163). -/
def opsOfCommand (valid origin : Bool) (sensor mode : Byte) : List Instr :=
  if valid then [.setmode (if origin then .command else .api) sensor mode] else []

/-- `rd_data`: lane `k` in bits `16k+15` to `16k` (R163). -/
def sampleOfRdData (w : BitVec 96) : Sample := Lanes.ofFn fun k => w.extractLsb' (16 * k.val) 16

/-- `irq_en`, the level IE (R163). -/
def irqEnSignal (s : State) : Bool := s.ie

/-- `sleep`, the level MODE = Disabled, high after RESET (R163). -/
def sleepSignal (s : State) : Bool := s.sleepLevel

/-- `obs_present`: an observer is registered (R163, R21). -/
def obsPresentSignal (s : State) : Bool := decide (s.observer ≠ .absent)

/-- `tx_kind`: 0 is MotionData, 1 is ModeChange (R163). -/
def txKindSignal (kind : EventKind) : Bool := decide (kind = .modeChange)

/-- `tx_len`: the payload's length, 4 bits (R163). -/
def txLenSignal (payload : List Byte) : BitVec 4 := BitVec.ofNat 4 payload.length

/-- The number whose byte `i`, from the low end, is byte `i` of the payload. -/
def packLow : List Byte → Nat
  | [] => 0
  | b :: rest => b.toNat + 256 * packLow rest

/-- `tx_data`: payload byte `i` in bits `8i+7` to `8i` (R163). The spec says nothing of the bits above the payload, bits 16 to
119 of a mode-change payload: here they are 0 (DESIGN CHOICE, entry 32). -/
def txDataSignal (payload : List Byte) : BitVec 120 := BitVec.ofNat 120 (packLow payload)

end Sys2Proof.Machine
end

