-- ==== Sys2Proof/Safety.lean ====
section
/-! DEFINITION. What statements about runs are said in: the machine's invariant, a run of operations, the end of an operation in
progress, and when two states differ only in what no register has been given. -/

namespace Sys2Proof.Machine

/-- Which task may follow which in an operation in progress: the orders of the pseudocode of POLL, FSTEP, ENCMD and SETMODE
(R120, R99, R106, R72). -/
def Task.before : Task → Task → Bool
  | .op .lclr, .pollRest => true
  | .op .rdsens, .op .fstep => true
  | .op .fstep, .op .encmd => true
  | .op .shadow, .op .ema => true
  | .op .ema, .op .encmd => true
  | .op .encmd, .gateBuilt .motionData => true
  | .op (.put16le i _), .op (.put16le j _) => isSampleIndex i && decide (j = i + 2)
  | .op (.put16le i _), .gateBuilt .motionData => decide (i = 13)
  | .op .enable, .op (.encmm .enabled) => true
  | .op .disable, .op (.encmm .disabled) => true
  | .op (.encmm _), .gateBuilt .modeChange => true
  | _, _ => false

/-- The tasks an operation in progress can end with. -/
def Task.canEnd : Task → Bool
  | .pollRest => true
  | .gateBuilt _ => true
  | .op .enable => true
  | .op .disable => true
  | .op (.evtMotionData _) => true
  | .op (.evtMotionMode _) => true
  | .op _ => false

/-- What is left of an operation in progress is the end of one of the fixed orders (R62). -/
def inOrder : List Task → Bool
  | [] => true
  | [t] => t.canEnd
  | t :: u :: rest => t.before u && inOrder (u :: rest)

/-- The invariant of the machine. -/
structure Inv (s : State) : Prop where
  /-- PAY is in canonical form and has no cell above 14 (R30). -/
  payForm : s.pay.wf Config.mdLen = true
  /-- MPAY is in canonical form and has no cell above 1 (R30). -/
  mpayForm : s.mpay.wf Config.mmLen = true
  /-- Once the interrupt path is open or a sample is pending, FILT has been written (R24, R158). -/
  filtReady : s.mode = .enabled ∨ s.latch = true → allWritten s.filt = true
  /-- Everything handed to the transport is a payload of its kind (R60, R61). -/
  sentFits : ∀ e ∈ s.tx, payloadFits e.1 e.2 = true
  /-- What the interrupt hardware was last told is IE; told nothing, the path is closed (R19). -/
  pathLogged : s.irqPathOpen.getD false = s.ie
  /-- What the sensor was last told is the level `sleep`; told nothing, the level is high (R19, R163). -/
  sleepLogged : s.sensorAsleep.getD true = s.sleepLevel
  /-- An operation in progress goes on in the order its rule gives (R62). -/
  insideOrdered : inOrder s.inside = true

/-- Perform operations one after the other, stopping at the first that does not complete. -/
def runOps : List Instr → State → Host.Outcome State Fault Refusal
  | [], s => .next s
  | i :: rest, s =>
    match exec i s with
    | .next t => runOps rest t
    | .fault r => .fault r
    | .refused r => .refused r

/-- Go on with the operation in progress until it is over, for at most so many steps. -/
def finish : Nat → State → Host.Outcome State Fault Refusal
  | 0, s => .next s
  | n + 1, s =>
    match s.inside with
    | [] => .next s
    | _ :: _ =>
      match step s with
      | .next t => finish n t
      | .fault r => .fault r
      | .refused r => .refused r

/-- The signed values of lane `k` of RAW, FILT and SHAD (R7). -/
def State.rawVal (s : State) (k : Fin 6) : Int := (s.raw.get k).value.toInt
def State.filtVal (s : State) (k : Fin 6) : Int := (s.filt.get k).value.toInt
def State.shadVal (s : State) (k : Fin 6) : Int := (s.shad.get k).value.toInt

/-- A receiver's signed reading of a sample's two bytes: `u = 256*hi + lo`, less 65536 from 32768 up (R55). -/
def receiverValue (lo hi : Byte) : Int :=
  let u : Int := 256 * hi.toNat + lo.toNat
  if u < 32768 then u else u - 65536

/-- Two registers that hold the same value if they hold one at all (R24). -/
def Reg.sameIfWritten (a b : Reg) : Prop :=
  a.written = b.written ∧ (a.written = true → a.value = b.value)

/-- Two states that differ at most in the contents of unwritten registers (R24). -/
structure AgreeWhereWritten (s t : State) : Prop where
  registers : ∀ i : Fin 18, (s.x i).sameIfWritten (t.x i)
  others : { t with raw := s.raw, filt := s.filt, shad := s.shad } = s

end Sys2Proof.Machine
end

