-- ==== Sys2Proof/Certificates/Slice0/Obligations.lean ====
section
/-! DEFINITION. The statements about the model, for the provers. Each docstring names the rule it formalises; what is the
model's own choice is said with its log entry. -/

open Sys2Proof Sys2Proof.Machine

/-! ### Steps, decoding, encoding -/

/-- A step performs the operation the next packet carries, on the state without that packet (entry 7), or, inside an operation
in progress, its next part (entry 18), both with the turn used up; where the turn says so and the operation has parts, it
begins it. It refuses bytes that are no packet; with nothing asked for and nothing in progress, nothing happens. The turns past
the listed ones are `whole`. -/
def Obligations.StepPerformsRequestedOperation : Prop :=
  (∀ (s : State) (p : Packet) (rest : List Packet) (i : Instr), s.inside = [] → s.input = p :: rest →
    decode p = .ok i → isTopLevel i = true → i.wf = true ∧
      (s.turn ≠ .parts ∨ begin i { s with input := rest, turns := s.turns.tail } = none →
        step s = exec i { s with input := rest, turns := s.turns.tail }) ∧
      (∀ t parts, s.turn = .parts → begin i { s with input := rest, turns := s.turns.tail } = some (t, parts) →
        step s = .next { t with inside := parts ++ t.inside })) ∧
  (∀ (s : State) (p : Packet) (rest : List Packet) (e : DecodeError), s.inside = [] → s.input = p :: rest →
    decode p = .error e → step s = .refused (refusalOf e)) ∧
  (∀ s : State, s.inside = [] → s.input = [] → step s = .next s) ∧
  (∀ (s : State) (i : Instr) (rest : List Task), s.inside = .op i :: rest → s.turn ≠ .outside →
    (s.turn = .whole ∨ begin i { s with inside := rest, turns := s.turns.tail } = none →
      step s = exec i { s with inside := rest, turns := s.turns.tail }) ∧
    (∀ t parts, s.turn = .parts → begin i { s with inside := rest, turns := s.turns.tail } = some (t, parts) →
      step s = .next { t with inside := parts ++ t.inside })) ∧
  (∀ (s : State) (rest : List Task), s.inside = .pollRest :: rest → s.turn ≠ .outside →
    step s = .next { s with
      inside := (if s.pending = true then [.op .rdsens, .op .fstep, .op .encmd, .gateBuilt .motionData] else []) ++ rest,
      turns := s.turns.tail }) ∧
  (∀ (s : State) (kind : EventKind) (rest : List Task), s.inside = .gateBuilt kind :: rest →
    (s.turn = .whole → step s = exec (.gate kind (s.built kind)) { s with inside := rest, turns := s.turns.tail }) ∧
    (∀ t parts, s.turn = .parts →
      begin (.gate kind (s.built kind)) { s with inside := rest, turns := s.turns.tail } = some (t, parts) →
      step s = .next { t with inside := parts ++ t.inside }))

/-- R62: a micro-operation happens only inside a top-level operation. Asked for from outside it is refused, between operations,
and never performed inside one; what a step does begin with nothing in progress is a top-level operation, whole or by its parts
(entry 18). -/
def Obligations.MicroOperationsHappenOnlyInside : Prop :=
  (∀ (s : State) (p : Packet) (rest : List Packet) (i : Instr), s.input = p :: rest → decode p = .ok i →
    isTopLevel i = false →
    (s.inside = [] → step s = .refused .onlyInsideAnOperation) ∧
    (s.inside ≠ [] → s.turn = .outside → step s = .next { s with turns := s.turns.tail })) ∧
  (∀ s t : State, s.inside = [] → step s = .next t →
    t = s ∨ ∃ p rest i, s.input = p :: rest ∧ decode p = .ok i ∧ isTopLevel i = true ∧
      (exec i { s with input := rest, turns := s.turns.tail } = .next t ∨
        (s.turn = .parts ∧ t.inside ≠ [] ∧ begin i { s with input := rest, turns := s.turns.tail } =
          some ({ t with inside := [] }, t.inside))))

/-- R38, R45: while an operation of the polling context is in progress and waits, an IRQ or a reset that is asked for next takes
effect, whatever is left of the operation staying (an IRQ) or being abandoned (a reset), and no other operation of the polling
context begins. The turns are the model's own (entry 18). -/
def Obligations.WaitingOperationAdmitsOnlyInterrupts : Prop :=
  (∀ (s : State) (rest : List Packet), s.inside ≠ [] → s.turn = .outside → s.input = encode .irq :: rest →
    ∃ t, step s = .next t ∧ exec .irq { s with input := rest, turns := s.turns.tail } = .next t ∧ t.inside = s.inside) ∧
  (∀ (s : State) (rest : List Packet), s.inside ≠ [] → s.turn = .outside → s.input = encode .reset :: rest →
    ∃ t, step s = .next t ∧ exec .reset { s with input := rest, turns := s.turns.tail } = .next t ∧ t.inside = []) ∧
  (∀ s : State, s.inside ≠ [] → s.turn = .outside →
    (∀ rest, s.input ≠ encode .irq :: rest ∧ s.input ≠ encode .reset :: rest) →
    step s = .next { s with turns := s.turns.tail })

/-- R62, R122: a top-level operation performed part by part, however finely, with nothing in between, ends in the state it
ends in performed whole, up to LCLR's own result (entry 12) and the turns used up (entry 18). -/
def Obligations.PartsEndAsTheWhole : Prop :=
  ∀ (s t : State) (p : Packet) (rest : List Packet) (i : Instr), s.inside = [] → s.input = p :: rest →
    decode p = .ok i → isTopLevel i = true → (∀ u ∈ s.turns, u ≠ .outside) → exec i { s with input := rest } = .next t →
    ∃ b u, step s = .next b ∧ finish 20 b = .next u ∧ u.inside = [] ∧
      { u with turns := t.turns, pending := t.pending } = t

/-- R62: every one of the sixteen selectors is its row's operation (operand bytes zero: entry 8), and no wider selector
is any. -/
def Obligations.SelectorsDecodeToTheirRows : Prop :=
  ((List.range 16).map fun w => (decodeTableWord 8 w).map fun i => (rowOf i).mnemonic) =
    ["RESET", "IRQ", "SETMODE", "POLL", "LCLR", "RDSENS", "SHADOW", "EMA", "FCLR", "FSTEP", "ENCMD", "ENCMM", "GATE",
      "PUT16LE", "ENABLE", "DISABLE"].map some ∧
  ∀ w : Nat, 16 ≤ w → w < 256 → decodeTableWord 8 w = none

/-- Packets written out from R51, R56, R57 and vector S3 decode to what they stand for, and the undefined ones are refused. The
two table words, byte 0 leftmost and sixteen bits read as CMD_SET_MODE, are the model's reading (entry 9). -/
def Obligations.WrittenOutPacketsDecode : Prop :=
  decode ⟨.md, [0x00, 0x03, 0x0C, 0x01, 0x00, 0xFF, 0xFF, 0x2C, 0x01, 0xD4, 0xFE, 0x00, 0x00, 0xFF, 0x7F]⟩ =
    .ok (.evtMotionData ⟨pat16 1, pat16 (-1), pat16 300, pat16 (-300), pat16 0, pat16 32767⟩) ∧
  decode ⟨.mm, [0x00, 0x01]⟩ = .ok (.evtMotionMode .enabled) ∧
  decode ⟨.mc, [0x00, 0x00]⟩ = .ok (.cmdSetMode .disabled) ∧
  decode ⟨.mc, [0x00, 0x01]⟩ = .ok (.cmdSetMode .enabled) ∧
  decode ⟨.mc, [0x00, 0x02]⟩ = .error .modeCommandUndefined ∧
  decode ⟨.mc, [0x01, 0x01]⟩ = .error .modeCommandUndefined ∧
  decode ⟨.md, [0x00, 0x01, 0x0C, 0x01, 0x00, 0xFF, 0xFF, 0x2C, 0x01, 0xD4, 0xFE, 0x00, 0x00, 0xFF, 0x7F]⟩ =
    .error .motionEventUndefined ∧
  decodeTableWord 16 0x0001 = some (.cmdSetMode .enabled) ∧
  decodeTableWord 120 0x00030CFA0000000000000000000000 = some (.evtMotionData ⟨250, 0, 0, 0, 0, 0⟩)

/-- Decoding an encoded well-formed operation gives it back, with every operand. -/
def Obligations.DecodeOfEncodeIsIdentity : Prop :=
  ∀ i : Instr, i.wf = true → decode (encode i) = .ok i

/-- Every packet that decodes is the one encoding of a well-formed operation. -/
def Obligations.DecodedPacketIsTheEncoding : Prop :=
  ∀ (p : Packet) (i : Instr), decode p = .ok i → i.wf = true ∧ encode i = p

/-- R62, R51, R56, R57: an operation's packet matches its own row of the operation table (format, match and mask) and no other.
The rows EVT_MOTION_MODE and CMD_SET_MODE have the same match and mask: they are told apart only by the format that a packet
carries beside its bytes, which is the model's own (entry 9). -/
def Obligations.PacketMatchesOnlyItsOwnRow : Prop :=
  ∀ i j : Instr, i.wf = true → ((rowOf j).matchesPacket (encode i) = true ↔ rowOf j = rowOf i)

/-! ### Invariants of the machine -/

/-- Every step keeps the invariant: payload spaces in canonical form (R30), FILT written whenever the interrupt path is open
or a sample is pending (R24), only payloads of their format sent (R60, R61), IE and the sleep level as last signalled (R19),
an operation in progress in the order its rule gives (R62; entry 18). -/
def Obligations.EveryStepKeepsInvariant : Prop :=
  ∀ s t : State, Inv s → step s = .next t → Inv t

/-- The reset state meets the invariant. -/
def Obligations.ResetStateMeetsInvariant : Prop := Inv State.reset

/-- R24: no top-level operation lets the contents of an unwritten register reach anything else: two states that differ only
there end alike and differ only there. (An unwritten register holds a free value, entry 1.) -/
def Obligations.UnwrittenContentsNeverLeak : Prop :=
  ∀ (i : Instr) (s t : State), isTopLevel i = true → Inv s → Inv t → AgreeWhereWritten s t →
    (∃ s' t', exec i s = .next s' ∧ exec i t = .next t' ∧ AgreeWhereWritten s' t') ∨
    (∃ r, exec i s = .refused r ∧ exec i t = .refused r)

/-! ### Reset -/

/-- R150, R23: RESET on any state disables the block, clears LATCH, leaves all eighteen registers unwritten and the logs
empty, with no event output; the parameters and the pending requests stay; then IRQ and POLL change nothing. -/
def Obligations.ResetDisablesAndForgets : Prop :=
  ∀ s : State, ∃ t, exec .reset s = .next t ∧
    t.mode = .disabled ∧ t.ie = false ∧ t.latch = false ∧ (∀ i, (t.x i).written = false) ∧ t.tx = [] ∧ t.ctl = [] ∧
    t.truncMode = s.truncMode ∧ t.observer = s.observer ∧ t.sensor = s.sensor ∧ t.input = s.input ∧ t.inside = [] ∧
    exec .poll t = .next t ∧ exec .irq t = .next t

/-- R151: from RESET, an API enable gives Enabled, LATCH true, FILT zero, RAW and SHAD unwritten, the two control events and,
with no observer, one mode-change payload `00 01`. -/
def Obligations.FirstEnableAfterReset : Prop :=
  ∀ s : State, s.observer = .absent →
    ∃ t, runOps [.reset, .setmode .api Config.sensorIndex Config.modeEnabled] s = .next t ∧
      t.mode = .enabled ∧ t.latch = true ∧ (∀ k, t.filtVal k = 0 ∧ (t.filt.get k).written = true) ∧
      (∀ k, (t.raw.get k).written = false ∧ (t.shad.get k).written = false) ∧
      t.ctl = [.irqPath true, .sensorSleep false] ∧ t.tx = [(.modeChange, [0x00, Config.modeEnabled])]

/-! ### The Latch -/

/-- R70, R71: IRQ, selector 0001, a falling edge of the data-ready line, sets LATCH while IE and does nothing while not;
nothing else changes in either case; simultaneous with a clear it may come first (consumed) or last (kept). -/
def Obligations.IrqSetsLatchOnlyWhileEnabled : Prop :=
  (encode .irq).bytes = [0b0001] ∧
  (∀ before now : Bool, opsOfDrdy before now = [.irq] ↔ before = true ∧ now = false) ∧
  (∀ s : State, s.mode = .enabled → exec .irq s = .next { s with latch := true }) ∧
  (∀ s : State, s.mode = .disabled → exec .irq s = .next s) ∧
  (∀ s : State, s.mode = .enabled → ∃ t, runOps [.irq, .lclr] s = .next t ∧
    { t with pending := s.pending } = { s with latch := false }) ∧
  (∀ s : State, s.mode = .enabled → ∃ t, runOps [.lclr, .irq] s = .next t ∧
    { t with pending := s.pending } = { s with latch := true })

/-- R136: any number of IRQs with nothing between them leave the state one of them leaves. -/
def Obligations.RepeatedIrqsCountOnce : Prop :=
  ∀ (n : Nat) (s : State), ∃ t, runOps [.irq] s = .next t ∧ runOps (List.replicate (n + 1) .irq) s = .next t

/-- R121, R43: LCLR returns LATCH and leaves it false, in one action, and changes nothing else. That the value returned is
kept in `pending` is the model's choice (entry 12). -/
def Obligations.LclrTestsAndClears : Prop :=
  ∀ s : State, exec .lclr s = .next { s with latch := false, pending := s.latch }

/-- R16, R133: LATCH becomes true only by an accepted IRQ or an enabling transition, and false only by LCLR, alone or inside
POLL, or by RESET. -/
def Obligations.LatchChangesOnlyByItsWriters : Prop :=
  ∀ (i : Instr) (s t : State), exec i s = .next t →
    (s.latch = false → t.latch = true →
      (i = .irq ∧ s.mode = .enabled) ∨ i = .enable ∨
      (s.mode = .disabled ∧ t.mode = .enabled ∧ ((∃ o id m, i = .setmode o id m) ∨ i = .cmdSetMode .enabled))) ∧
    (s.latch = true → t.latch = false → i = .lclr ∨ i = .poll ∨ i = .reset)

/-! ### The Mode Controller -/

/-- R78: SETMODE with a sensor id other than 0x00 or a mode above 0x01 is refused, by either origin and as a command packet. -/
def Obligations.UndefinedModeRequestIsRefused : Prop :=
  ∀ (id m : Byte), id ≠ 0x00 ∨ 1 < m.toNat →
    (∀ (o : Origin) (s : State), exec (.setmode o id m) s = .refused .undefinedModeRequest) ∧
    (∀ (s : State) (rest : List Packet), s.inside = [] → s.input = ⟨.mc, [id, m]⟩ :: rest →
      step s = .refused .undefinedModeRequest)

/-- R76: a request for the mode in force changes no register, flag or log and builds no event. -/
def Obligations.SameModeRequestDoesNothing : Prop :=
  ∀ (o : Origin) (s : State), exec (.setmode o Config.sensorIndex (modeByte s.mode)) s = .next s ∧
    exec (.cmdSetMode s.mode) s = .next s

/-- R73: ENABLE zeroes FILT, sets LATCH and MODE, logs IrqPath(true) then SensorSleep(false), and changes nothing else; the
next POLL gives a quarter of the raw value in every lane. -/
def Obligations.EnableZeroesFilterAndForcesLatch : Prop :=
  ∀ s : State, ∃ t, exec .enable s = .next t ∧
    (∀ k, t.filtVal k = 0 ∧ (t.filt.get k).written = true) ∧ t.latch = true ∧ t.mode = .enabled ∧
    t.ctl = s.ctl ++ [.irqPath true, .sensorSleep false] ∧
    { t with filt := s.filt, latch := s.latch, mode := s.mode, ctl := s.ctl } = s ∧
    ∃ u, exec .poll t = .next u ∧ ∀ k, u.filtVal k = trunc4 s.truncMode (u.rawVal k)

/-- R74: DISABLE logs SensorSleep(true), sets MODE, logs IrqPath(false), and changes nothing else, LATCH least of all; an
IRQ after it has no effect. -/
def Obligations.DisableKeepsLatchAndFilter : Prop :=
  ∀ s : State, ∃ t, exec .disable s = .next t ∧ t.mode = .disabled ∧
    t.ctl = s.ctl ++ [.sensorSleep true, .irqPath false] ∧ { t with mode := s.mode, ctl := s.ctl } = s ∧
    exec .irq t = .next t

/-- R72, R77: a defined request for the other mode performs ENABLE or DISABLE; by command that is all; by API the event
`00 m` is then built in MPAY and offered by GATE, so that it is sent unless the observer skips it, and surely sent with no
observer. -/
def Obligations.ModeChangeAnnouncedUnlessCommanded : Prop :=
  ∀ (s : State) (new : Mode), new ≠ s.mode →
    ∃ t u, exec (transitionOp new) s = .next t ∧
      exec (.setmode .command Config.sensorIndex (modeByte new)) s = .next t ∧
      exec (.setmode .api Config.sensorIndex (modeByte new)) s = .next u ∧
      runOps [transitionOp new, .encmm new, .gate .modeChange [Config.sensorIndex, modeByte new]] s = .next u ∧
      u.mpay.read 0 = some Config.sensorIndex ∧ u.mpay.read 1 = some (modeByte new) ∧
      (∀ a, 2 ≤ a → u.mpay.read a = none) ∧
      (u.tx = t.tx ∨ u.tx = t.tx ++ [(.modeChange, [Config.sensorIndex, modeByte new])]) ∧
      (s.observer = .absent → u.tx = t.tx ++ [(.modeChange, [Config.sensorIndex, modeByte new])]) ∧
      { u with mpay := t.mpay, tx := t.tx, observer := t.observer, draws := t.draws } = t

/-- R57, R72: a mode command packet is SETMODE with origin Command, and completes. -/
def Obligations.CommandPacketIsCommandedSetmode : Prop :=
  ∀ (m : Mode) (s : State), ∃ t, exec (.cmdSetMode m) s = .next t ∧
    exec (.setmode .command Config.sensorIndex (modeByte m)) s = .next t ∧ t.mode = m ∧ t.tx = s.tx

/-- R17, R138: MODE changes only by SETMODE, by either origin, through its transitions, or by RESET. -/
def Obligations.ModeChangesOnlyByModeControl : Prop :=
  ∀ (i : Instr) (s t : State), exec i s = .next t → t.mode ≠ s.mode →
    i = .reset ∨ i = .enable ∨ i = .disable ∨ i = .cmdSetMode t.mode ∨
      ∃ o, i = .setmode o Config.sensorIndex (modeByte t.mode)

/-! ### The Sensor Reader and the Smoothing Filter -/

/-- R85: RDSENS writes all six lanes of RAW with one answer of the oracle and nothing else of the block. The answers listed
in the state come first, then free values (entry 5). -/
def Obligations.BurstReadWritesAllOfRaw : Prop :=
  (∀ (s : State) (v : Sample) (rest : List Sample), s.sensor = v :: rest →
    ∃ t, exec .rdsens s = .next t ∧ (∀ k, t.raw.get k = ⟨v.get k, true⟩) ∧ t.sensor = rest ∧
      { t with raw := s.raw, sensor := s.sensor } = s) ∧
  (∀ s : State, s.sensor = [] →
    ∃ t, exec .rdsens s = .next t ∧ (∀ k, (t.raw.get k).written = true) ∧
      { t with raw := s.raw, draws := s.draws } = s)

/-- R90: FCLR writes 0 to all of FILT and nothing else. -/
def Obligations.FclrZeroesFilt : Prop :=
  ∀ s : State, ∃ t, exec .fclr s = .next t ∧ (∀ k, t.filtVal k = 0 ∧ (t.filt.get k).written = true) ∧
    { t with filt := s.filt } = s

/-- R91: SHADOW, selector 0110, copies FILT to SHAD, lane by lane, and writes nothing else. -/
def Obligations.ShadowCopiesFilt : Prop :=
  (encode .shadow).bytes = [0b0110] ∧
  ∀ s : State, ∃ t, exec .shadow s = .next t ∧ (∀ k, t.shadVal k = s.filtVal k ∧ (t.shad.get k).written = true) ∧
    { t with shad := s.shad } = s

/-- R92: EMA, selector 0111, gives every lane `prev + (raw - prev)/4` with the fraction discarded, exactly and without
wrapping, less than 1 from the exact value; it writes FILT and nothing else. -/
def Obligations.EmaIsTheExactBlendTruncated : Prop :=
  (encode .ema).bytes = [0b0111] ∧
  ∀ s : State, ∃ t, exec .ema s = .next t ∧
    (∀ k, t.filtVal k = trunc4 s.truncMode (4 * s.shadVal k + (s.rawVal k - s.shadVal k)) ∧
      |4 * t.filtVal k - (3 * s.shadVal k + s.rawVal k)| < 4 ∧ (t.filt.get k).written = true ∧
      |s.rawVal k - s.shadVal k| ≤ 65535 ∧
      -131072 ≤ 4 * s.shadVal k + (s.rawVal k - s.shadVal k) ∧
      4 * s.shadVal k + (s.rawVal k - s.shadVal k) ≤ 131068) ∧
    { t with filt := s.filt } = s

/-- R99: FSTEP is SHADOW then EMA; afterwards SHAD is the old FILT, and FILT the truncated quarter of `3*FILT + RAW`. -/
def Obligations.FstepShadowsThenBlends : Prop :=
  ∀ s : State, ∃ t, exec .fstep s = .next t ∧ runOps [.shadow, .ema] s = .next t ∧
    (∀ k, t.shadVal k = s.filtVal k ∧ t.filtVal k = trunc4 s.truncMode (3 * s.filtVal k + s.rawVal k)) ∧
    (∀ k, (t.shad.get k).written = true ∧ (t.filt.get k).written = true) ∧
    { t with shad := s.shad, filt := s.filt } = s

/-- R94: the quotient and remainder of `trunc4`, and the rule's table. -/
def Obligations.TruncationFollowsItsTable : Prop :=
  (∀ n q r : Int, n = 4 * q + r → 0 ≤ r → r ≤ 3 →
    trunc4 .towardNegInf n = q ∧ (0 ≤ n ∨ r = 0 → trunc4 .towardZero n = q) ∧
    (n < 0 ∧ r ≠ 0 → trunc4 .towardZero n = q + 1)) ∧
  [5, 3, 0, -1, -3, -4, -5, -19].map (trunc4 .towardZero) = [1, 0, 0, 0, 0, -1, -1, -4] ∧
  [5, 3, 0, -1, -3, -4, -5, -19].map (trunc4 .towardNegInf) = [1, 0, 0, -1, -1, -1, -2, -5]

/-- R95: two blocks that differ only in TRUNC_MODE give different results in a lane exactly when the exact value is negative
and no integer, and then the one that truncates toward negative infinity gives 1 less. -/
def Obligations.TruncModesDifferOnlyOnNegativeFractions : Prop :=
  ∀ (s : State) (k : Fin 6), ∃ t u,
    exec .ema { s with truncMode := .towardZero } = .next t ∧ exec .ema { s with truncMode := .towardNegInf } = .next u ∧
    (t.filtVal k ≠ u.filtVal k ↔ 3 * s.shadVal k + s.rawVal k < 0 ∧ (3 * s.shadVal k + s.rawVal k) % 4 ≠ 0) ∧
    (t.filtVal k ≠ u.filtVal k → u.filtVal k = t.filtVal k - 1)

/-- R97: EMA's result is the exact integer, never wrapped or saturated, and lies between the shadow and the raw value, in
every lane and in both modes. -/
def Obligations.EmaStaysBetweenItsOperands : Prop :=
  ∀ s : State, ∃ t, exec .ema s = .next t ∧
    ∀ k, t.filtVal k = trunc4 s.truncMode (4 * s.shadVal k + (s.rawVal k - s.shadVal k)) ∧
      min (s.shadVal k) (s.rawVal k) ≤ t.filtVal k ∧ t.filtVal k ≤ max (s.shadVal k) (s.rawVal k)

/-- R98: lane k's new value depends only on SHAD[k], RAW[k] and TRUNC_MODE, by one function for all lanes, and all six are
updated. -/
def Obligations.LanesAreIndependent : Prop :=
  ∀ (s u : State) (j k : Fin 6), s.truncMode = u.truncMode →
    (s.shad.get j).value = (u.shad.get k).value → (s.raw.get j).value = (u.raw.get k).value →
    ∃ s' u', exec .ema s = .next s' ∧ exec .ema u = .next u' ∧ s'.filt.get j = u'.filt.get k ∧
      ∀ l, (s'.filt.get l).written = true

/-- R93: the 18-bit datapath gives what the exact integers give, and its sum does not overflow 18 bits. -/
def Obligations.DatapathEqualsExactFilter : Prop :=
  ∀ (mode : TruncMode) (prev raw : S16),
    emaDatapath mode prev raw = emaLane mode prev raw ∧
    ((prev.signExtend 18 <<< 2) + (raw.signExtend 18 - prev.signExtend 18)).toInt =
      4 * prev.toInt + (raw.toInt - prev.toInt) ∧
    -131072 ≤ 4 * prev.toInt + (raw.toInt - prev.toInt) ∧ 4 * prev.toInt + (raw.toInt - prev.toInt) ≤ 131068 ∧
    (4 * prev.toInt + (raw.toInt - prev.toInt) < 0 → 4 * prev.toInt + (raw.toInt - prev.toInt) + 3 ≤ 131071)

/-- R100: under a constant raw input, from any filtered value, the filtered values after n and n+1 steps approach the input
monotonically and never pass it. -/
def Obligations.ConstantInputIsApproachedMonotonically : Prop :=
  ∀ (s : State) (n : Nat), ∃ t u,
    runOps (List.replicate n .fstep) s = .next t ∧ runOps (List.replicate (n + 1) .fstep) s = .next u ∧
    ∀ k, (s.filtVal k ≤ s.rawVal k →
        s.filtVal k ≤ t.filtVal k ∧ t.filtVal k ≤ u.filtVal k ∧ u.filtVal k ≤ s.rawVal k) ∧
      (s.rawVal k ≤ s.filtVal k →
        s.rawVal k ≤ u.filtVal k ∧ u.filtVal k ≤ t.filtVal k ∧ t.filtVal k ≤ s.filtVal k)

/-- R101, first half: EMA leaves a lane unchanged exactly in the listed cases, and otherwise moves it toward raw by at
least 1. -/
def Obligations.LaneStopsExactlyWhereListed : Prop :=
  ∀ (s : State) (k : Fin 6), ∃ t, exec .ema s = .next t ∧
    (let prev := s.shadVal k
     let d := s.rawVal k - prev
     (s.truncMode = .towardNegInf → (t.filtVal k = prev ↔ 0 ≤ d ∧ d ≤ 3)) ∧
     (s.truncMode = .towardZero → 0 < prev → (t.filtVal k = prev ↔ 0 ≤ d ∧ d ≤ 3)) ∧
     (s.truncMode = .towardZero → prev < 0 → (t.filtVal k = prev ↔ -3 ≤ d ∧ d ≤ 0)) ∧
     (s.truncMode = .towardZero → prev = 0 → (t.filtVal k = prev ↔ -3 ≤ d ∧ d ≤ 3)) ∧
     (t.filtVal k ≠ prev → (0 < d ∧ prev + 1 ≤ t.filtVal k) ∨ (d < 0 ∧ t.filtVal k ≤ prev - 1)))

/-- R101, second half: under a constant input every lane settles within 3 of the input, from any state, in at most 65535
steps. -/
def Obligations.LaneSettlesWithinThreeOfInput : Prop :=
  ∀ (s : State) (n : Nat), 65535 ≤ n →
    ∃ t, runOps (List.replicate n .fstep) s = .next t ∧ ∀ k, |t.filtVal k - s.rawVal k| ≤ 3

/-! ### The Event Encoder -/

/-- R105, R54: PUT16LE, selector 1101, at any of its indices 3, 5, 7, 9, 11, 13, writes the value's pattern mod 256 at the
index and div 256 at the next, and no other byte, register, flag or log. -/
def Obligations.Put16leWritesLowThenHigh : Prop :=
  ∀ (i : Nat) (v : S16) (s : State), isSampleIndex i = true →
    (encode (.put16le i v)).bytes.head? = some 0b1101 ∧
    ∃ t, exec (.put16le i v) s = .next t ∧
      (∃ lo hi, t.pay.read i = some lo ∧ t.pay.read (i + 1) = some hi ∧
        lo.toNat = v.toNat % 256 ∧ hi.toNat = v.toNat / 256) ∧
      (∀ a, a ≠ i → a ≠ i + 1 → t.pay.read a = s.pay.read a) ∧ { t with pay := s.pay } = s

/-- Model's own (entry 15): at an index the spec never gives it, PUT16LE does the same where PAY has both cells, and else
stops with the named fault (R30: cells 0 to 14). -/
def Obligations.Put16leAtOtherIndices : Prop :=
  ∀ (i : Nat) (v : S16) (s : State), isSampleIndex i = false →
    (i + 1 < 15 → ∃ t, exec (.put16le i v) s = .next t ∧
      t.pay.read i = some (lowByte v) ∧ t.pay.read (i + 1) = some (highByte v) ∧
      (∀ a, a ≠ i → a ≠ i + 1 → t.pay.read a = s.pay.read a) ∧ { t with pay := s.pay } = s) ∧
    (15 ≤ i + 1 → exec (.put16le i v) s = .fault (.noSuchPayloadCell i))

/-- R106, R107: ENCMD, selector 1010, fills PAY[0..14] with `00 03 0C` and the six filtered values, low byte first, whatever
PAY held; it writes no register, flag or log. -/
def Obligations.EncmdBuildsTheFixedLayout : Prop :=
  (encode .encmd).bytes = [0b1010] ∧
  ∀ s : State, ∃ t, exec .encmd s = .next t ∧
    t.pay.read 0 = some 0x00 ∧ t.pay.read 1 = some 0x03 ∧ t.pay.read 2 = some 0x0C ∧
    (∀ k : Fin 6, ∃ lo hi, t.pay.read (3 + 2 * k.val) = some lo ∧ t.pay.read (4 + 2 * k.val) = some hi ∧
      lo.toNat = (s.filt.get k).value.toNat % 256 ∧ hi.toNat = (s.filt.get k).value.toNat / 256) ∧
    (∀ a, 15 ≤ a → t.pay.read a = none) ∧ t.pay.bytes.length = 15 ∧ { t with pay := s.pay } = s

/-- R106: ENCMD is the three constant bytes and then PUT16LE at 3 + 2k of lane k, for k from 0 to 5. -/
def Obligations.EncmdIsSixPut16le : Prop :=
  ∀ s : State, ∃ t, exec .encmd s = .next t ∧
    runOps [.put16le 3 (s.filt.get 0).value, .put16le 5 (s.filt.get 1).value, .put16le 7 (s.filt.get 2).value,
        .put16le 9 (s.filt.get 3).value, .put16le 11 (s.filt.get 4).value, .put16le 13 (s.filt.get 5).value]
      { s with pay := [(0, 0x00), (1, 0x03), (2, 0x0C)] } = .next t

/-- R109: ENCMM, selector 1011, fills MPAY with sensorIndex and the byte of the mode it is given, whatever MODE is, and writes nothing else. -/
def Obligations.EncmmBuildsModePayload : Prop :=
  ∀ (new : Mode) (s : State), (encode (.encmm new)).bytes.head? = some 0b1011 ∧ ∃ t, exec (.encmm new) s = .next t ∧
    t.mpay.read 0 = some 0x00 ∧
    t.mpay.read 1 = some (if new = .enabled then Config.modeEnabled else Config.modeDisabled) ∧
    (∀ a, 2 ≤ a → t.mpay.read a = none) ∧ { t with mpay := s.mpay } = s

/-- R110, R55: a receiver that reads ENCMD's twelve data bytes gets the six filtered values back; two states with different
filtered values have different payloads. -/
def Obligations.PayloadDecodesToFilteredValues : Prop :=
  (∀ s : State, ∃ t, exec .encmd s = .next t ∧
    ∀ k : Fin 6, ∃ lo hi, t.pay.read (3 + 2 * k.val) = some lo ∧ t.pay.read (4 + 2 * k.val) = some hi ∧
      receiverValue lo hi = s.filtVal k) ∧
  (∀ s u : State, ∃ t v, exec .encmd s = .next t ∧ exec .encmd u = .next v ∧
    (t.pay = v.pay → ∀ k, s.filtVal k = u.filtVal k))

/-! ### The Dispatch Gate and the wire -/

/-- R115, R117: GATE, selector 1100, asks the observer about the payload's fields and then emits the payload unchanged, once, if
the answer is not to skip, and else not at all; with no observer, or one that answers false, it emits; with one that answers
true it does not; no register, flag or payload space changes; all this for both kinds. -/
def Obligations.GateEmitsUnchangedOrDrops : Prop :=
  ∀ (kind : EventKind) (payload : List Byte) (s : State), payloadFits kind payload = true →
    (encode (.gate kind payload)).bytes.head? = some 0b1100 ∧
    ∃ f t, fieldsOf kind payload = some f ∧ exec (.gate kind payload) s = .next t ∧
      t.tx = (if (s.observe f).1 = true then s.tx else s.tx ++ [(kind, payload)]) ∧
      (s.observer = .absent → t.tx = s.tx ++ [(kind, payload)]) ∧
      (s.observer = .function [] false → t.tx = s.tx ++ [(kind, payload)]) ∧
      (s.observer = .function [] true → t.tx = s.tx) ∧
      { t with tx := s.tx, observer := s.observer, draws := s.draws } = s

/-- R116, R117, vectors V-GATE: what each form of observer (entry 4) is shown and answers, for both kinds of event. A motion
event shows (0, 0x03, 12, the six samples), a mode change (0, mode) (entry 22); a skip drops the payload, anything else passes
it. -/
def Obligations.ObserverSeesFieldsAndVetoes : Prop :=
  ∀ (v : Sample) (s : State),
    (∀ rows otherwise, s.observer = .function rows otherwise →
      exec (.gate .motionData (motionPayload v)) s =
        .next { s with tx := if answerOf rows otherwise (.motionData 0x00 0x03 0x0C v) = true then s.tx
                             else s.tx ++ [(.motionData, motionPayload v)] }) ∧
    (∀ rows otherwise (m : Mode), s.observer = .function rows otherwise →
      exec (.gate .modeChange (modePayload m)) s =
        .next { s with tx := if answerOf rows otherwise (.modeChange 0x00 m) = true then s.tx
                             else s.tx ++ [(.modeChange, modePayload m)] }) ∧
    (∀ b rest, s.observer = .answers (b :: rest) →
      exec (.gate .motionData (motionPayload v)) s =
        .next { s with observer := .answers rest,
                       tx := if b = true then s.tx else s.tx ++ [(.motionData, motionPayload v)] }) ∧
    (∀ b rest (m : Mode), s.observer = .answers (b :: rest) →
      exec (.gate .modeChange (modePayload m)) s =
        .next { s with observer := .answers rest,
                       tx := if b = true then s.tx else s.tx ++ [(.modeChange, modePayload m)] }) ∧
    (s.observer = .answers [] → ∃ b : Bool,
      exec (.gate .motionData (motionPayload v)) s =
        .next { s with draws := s.draws + 1,
                       tx := if b = true then s.tx else s.tx ++ [(.motionData, motionPayload v)] }) ∧
    (∀ m : Mode, s.observer = .answers [] → ∃ b : Bool,
      exec (.gate .modeChange (modePayload m)) s =
        .next { s with draws := s.draws + 1,
                       tx := if b = true then s.tx else s.tx ++ [(.modeChange, modePayload m)] })

/-- Model's own (entry 13, after U16): GATE refuses bytes that are no payload of the kind. -/
def Obligations.GateRefusesBytesOutsideFormat : Prop :=
  ∀ (kind : EventKind) (payload : List Byte) (s : State), payloadFits kind payload = false →
    exec (.gate kind payload) s = .refused .payloadOutsideFormat

/-- Model's own (entry 10, on R8): an outgoing event packet is handed to the transport collaborator whole, and nothing else
changes. -/
def Obligations.OutgoingEventIsEmitted : Prop :=
  ∀ (s : State) (v : Sample) (m : Mode),
    exec (.evtMotionData v) s = .next { s with tx := s.tx ++ [(.motionData, (encode (.evtMotionData v)).bytes)] } ∧
    exec (.evtMotionMode m) s = .next { s with tx := s.tx ++ [(.modeChange, (encode (.evtMotionMode m)).bytes)] }

/-! ### POLL -/

/-- R120: with LATCH false POLL changes nothing; with LATCH true it clears LATCH, reads six values into RAW, copies FILT to
SHAD, blends, builds the payload of the new FILT in PAY and offers it; nothing else changes. -/
def Obligations.PollRunsOneSequenceIfLatched : Prop :=
  (∀ s : State, s.latch = false → exec .poll s = .next s) ∧
  (∀ s : State, s.latch = true → ∃ t, exec .poll s = .next t ∧ t.latch = false ∧
    (∃ r, exec .rdsens s = .next r ∧ t.raw = r.raw ∧ t.sensor = r.sensor) ∧
    (∀ k, t.shadVal k = s.filtVal k ∧ t.filtVal k = trunc4 s.truncMode (3 * s.filtVal k + t.rawVal k)) ∧
    (∀ i, (t.x i).written = true) ∧
    (∃ e, exec .encmd t = .next e ∧ t.pay = e.pay) ∧
    (t.tx = s.tx ∨ t.tx = s.tx ++ [(.motionData, t.pay.bytes)]) ∧
    (s.observer = .absent → t.tx = s.tx ++ [(.motionData, t.pay.bytes)]) ∧
    t.mode = s.mode ∧ t.mpay = s.mpay ∧ t.ctl = s.ctl ∧ t.pending = s.pending ∧ t.truncMode = s.truncMode ∧
    t.input = s.input ∧ t.inside = s.inside ∧ t.turns = s.turns)

/-- R120, R122: with LATCH true, POLL is LCLR, RDSENS, FSTEP, ENCMD and GATE of the bytes ENCMD built, in that order, up to
LCLR's own result (entry 12). -/
def Obligations.PollIsItsMicroOperations : Prop :=
  ∀ s : State, s.latch = true → ∃ t, exec .poll s = .next t ∧
    runOps [.lclr, .rdsens, .fstep, .encmd, .gate .motionData t.pay.bytes] s = .next { t with pending := true }

/-- R122, R42: an IRQ anywhere after LCLR inside a POLL, between any two of its micro-operations, has exactly the effect of
the same IRQ just after that POLL. -/
def Obligations.IrqInsidePollIsIrqAfterIt : Prop :=
  ∀ (s : State) (j : Nat), s.latch = true → ∃ t u, exec .poll s = .next t ∧ runOps [.poll, .irq] s = .next u ∧
    runOps (.lclr ::
      (([.rdsens, .fstep, .encmd, .gate .motionData t.pay.bytes] : List Instr).take j ++ .irq ::
        ([.rdsens, .fstep, .encmd, .gate .motionData t.pay.bytes] : List Instr).drop j)) s =
      .next { u with pending := true }

/-- R120, vector S4: no interrupt is processed twice: a second POLL with no IRQ between changes nothing. -/
def Obligations.SecondPollDoesNothing : Prop :=
  ∀ s : State, ∃ t, runOps [.poll] s = .next t ∧ runOps [.poll, .poll] s = .next t

/-- R123, R88: POLL is not gated by MODE: what it does in either mode differs in MODE alone, so a Latch left true by DISABLE
is consumed by one more sequence. -/
def Obligations.PollIgnoresMode : Prop :=
  ∀ (s : State) (m : Mode), ∃ t, exec .poll s = .next t ∧ exec .poll { s with mode := m } = .next { t with mode := m }

/-- R39, R159: on an enabled block with no observer, n samples, each an IRQ and the POLL that follows it, send exactly n
motion-data payloads, after what was sent before, each 15 bytes long and begun `00 03 0C`, and leave nothing pending. -/
def Obligations.EachServedInterruptSendsOnePayload : Prop :=
  ∀ (n : Nat) (s : State), s.mode = .enabled → s.observer = .absent → s.latch = false →
    ∃ t sent, runOps (List.replicate n [.irq, .poll]).flatten s = .next t ∧ t.tx = s.tx ++ sent ∧ sent.length = n ∧
      (∀ e ∈ sent, e.1 = .motionData ∧ e.2.length = 15 ∧ e.2.take 3 = [0x00, 0x03, 0x0C]) ∧ t.latch = false

/-! ### The whole machine -/

/-- Every well-formed operation completes on every state, except a mode request the spec refuses (R78): there is no exception and
no error (R130). R130 says so of the states an operation can be reached in; that it holds of every state, with unwritten
registers read (entry 1) and with micro-operations and outgoing events on their own (entries 10, 18), is the model's choice. -/
def Obligations.EveryOperationCompletes : Prop :=
  ∀ (i : Instr) (s : State), i.wf = true →
    (∃ t, exec i s = .next t) ∨
    (∃ o id m, i = .setmode o id m ∧ modeRequest id m = none ∧ exec i s = .refused .undefinedModeRequest)

/-- R12 to R15, R71: RAW is changed only by RDSENS, SHAD only by SHADOW, FILT only by EMA and FCLR, each alone or inside the
operation that performs it, or by RESET. -/
def Obligations.RegistersChangeOnlyByTheirWriters : Prop :=
  ∀ (i : Instr) (s t : State), exec i s = .next t →
    (t.raw ≠ s.raw → i = .rdsens ∨ i = .poll ∨ i = .reset) ∧
    (t.shad ≠ s.shad → i = .shadow ∨ i = .fstep ∨ i = .poll ∨ i = .reset) ∧
    (t.filt ≠ s.filt → i = .ema ∨ i = .fstep ∨ i = .poll ∨ i = .fclr ∨ i = .enable ∨ i = .reset ∨
      i = .cmdSetMode .enabled ∨ ∃ o, i = .setmode o Config.sensorIndex Config.modeEnabled)

/-- R37, R39, R20: what was sent and what was signalled is never changed or reordered; an operation other than RESET adds at
most one payload, of the layout of its kind, at the end. -/
def Obligations.SentPayloadsAreNeverChanged : Prop :=
  ∀ (i : Instr) (s t : State), exec i s = .next t → i ≠ .reset → i.wf = true →
    (t.tx = s.tx ∨ ∃ kind payload, payloadFits kind payload = true ∧ t.tx = s.tx ++ [(kind, payload)]) ∧
    ∃ more, t.ctl = s.ctl ++ more

/-- R20, D23: the logs are write-only: an operation other than RESET does the same whatever was logged before. -/
def Obligations.LogsAreNeverRead : Prop :=
  ∀ (i : Instr) (s t : State) (sent : List (EventKind × List Byte)) (told : List CtlEvent), i ≠ .reset →
    exec i s = .next t →
    exec i { s with tx := sent ++ s.tx, ctl := told ++ s.ctl } =
      .next { t with tx := sent ++ t.tx, ctl := told ++ t.ctl }

/-- R25, R116: no operation changes TRUNC_MODE, whether an observer is registered, or what the outside has asked for; none but
RESET changes what is left of the operation around it. -/
def Obligations.ParametersAreNeverChanged : Prop :=
  ∀ (i : Instr) (s t : State), exec i s = .next t →
    t.truncMode = s.truncMode ∧ t.input = s.input ∧ t.turns = s.turns ∧ (t.observer = .absent ↔ s.observer = .absent) ∧
      (i ≠ .reset → t.inside = s.inside)

/-- R163 (the spec's own naming, D20; entry 29): `irq_en` is IE and `sleep` is MODE = Disabled; lane k of the burst read stands
in bits 16k+15 to 16k of `rd_data`; payload byte i stands in bits 8i+7 to 8i of `tx_data`, `tx_len` is the length of what GATE
may send, and `tx_kind` is 0 for motion data and 1 for a mode change; `obs_present` says whether an observer is registered; a
falling edge of `drdy_n`, `rst`, `poll` and a valid command ask for their operations and nothing else does. -/
def Obligations.SignalsCarryEveryByte : Prop :=
  (∀ s : State, irqEnSignal s = decide (s.mode = .enabled) ∧ sleepSignal s = decide (s.mode = .disabled)) ∧
  (∀ (w : BitVec 96) (k : Fin 6), (sampleOfRdData w).get k = w.extractLsb' (16 * k.val) 16) ∧
  (∀ (payload : List Byte) (i : Nat) (b : Byte), payload.length ≤ 15 → payload[i]? = some b →
    (txDataSignal payload).extractLsb' (8 * i) 8 = b) ∧
  (∀ (kind : EventKind) (payload : List Byte), payloadFits kind payload = true →
    (txLenSignal payload).toNat = payload.length ∧ payload.length = (if txKindSignal kind then 2 else 15)) ∧
  (txKindSignal .motionData = false ∧ txKindSignal .modeChange = true) ∧
  (∀ s : State, obsPresentSignal s = true ↔ s.observer ≠ .absent) ∧
  (∀ before now : Bool, opsOfDrdy before now = if before = true ∧ now = false then [.irq] else []) ∧
  (∀ asserted : Bool, opsOfRst asserted = (if asserted then [.reset] else []) ∧
    opsOfPoll asserted = if asserted then [.poll] else []) ∧
  (∀ (origin : Bool) (sensor mode : Byte), opsOfCommand false origin sensor mode = [] ∧
    opsOfCommand true false sensor mode = [.setmode .api sensor mode] ∧
    opsOfCommand true true sensor mode = [.setmode .command sensor mode])
end

