-- ==== Sys2Proof/Laws/Arith.lean ====
section
/-! SUPPORT. The filter's arithmetic: what truncation gives, that the result lies between its operands, and that the 16-bit
result is the integer one. -/

namespace Sys2Proof.Machine

/-- The quotient is within one of the exact value, on the side the mode names (R94). -/
theorem trunc4_bounds (mode : TruncMode) (n : Int) :
    4 * trunc4 mode n - 4 < n ∧ n < 4 * trunc4 mode n + 4 ∧
      (mode = .towardNegInf → 4 * trunc4 mode n ≤ n) ∧
      (mode = .towardZero → (0 ≤ n → 4 * trunc4 mode n ≤ n) ∧ (n ≤ 0 → n ≤ 4 * trunc4 mode n)) := by
  cases mode with
  | towardNegInf => refine ⟨?_, ?_, ?_, ?_⟩ <;> simp only [trunc4] <;> first | omega | simp
  | towardZero =>
    simp only [trunc4]
    split
    · refine ⟨by omega, by omega, by simp, fun _ => ⟨fun _ => by omega, fun _ => by omega⟩⟩
    · refine ⟨by omega, by omega, by simp, fun _ => ⟨fun _ => by omega, fun _ => by omega⟩⟩

/-- Discarding a fraction never passes an integer bound (R97). -/
theorem trunc4_between {mode : TruncMode} {n a b : Int} (ha : 4 * a ≤ n) (hb : n ≤ 4 * b) :
    a ≤ trunc4 mode n ∧ trunc4 mode n ≤ b := by
  have h := trunc4_bounds mode n
  cases mode with
  | towardNegInf =>
    have := h.2.2.1 rfl
    omega
  | towardZero =>
    have := h.2.2.2 rfl
    omega

/-- EMA's integer result lies between its two operands (R97). -/
theorem emaInt_between (mode : TruncMode) (prev raw : Int) :
    min prev raw ≤ emaInt mode prev raw ∧ emaInt mode prev raw ≤ max prev raw := by
  have ⟨h1, h2⟩ := trunc4_between (mode := mode) (n := 4 * prev + (raw - prev)) (a := min prev raw) (b := max prev raw)
    (by omega) (by omega)
  exact ⟨h1, h2⟩

/-- A 16-bit pattern holds every integer of the s16 range (R6). -/
theorem pat16_toInt {v : Int} (h1 : -32768 ≤ v) (h2 : v ≤ 32767) : (pat16 v).toInt = v := by
  rw [pat16, BitVec.toInt_ofInt, Int.bmod_eq_of_le] <;> omega

/-- The value of a register lies in the s16 range (R6). -/
theorem s16_range (p : S16) : -32768 ≤ p.toInt ∧ p.toInt ≤ 32767 := by
  have h1 := BitVec.le_toInt p
  have h2 := BitVec.toInt_lt (x := p)
  norm_num at h1 h2
  omega

/-- The 16-bit lane computes the integer one: nothing wraps (R92, R97). -/
@[simp] theorem emaLane_toInt (mode : TruncMode) (prev raw : S16) :
    (emaLane mode prev raw).toInt = emaInt mode prev.toInt raw.toInt := by
  have hp := s16_range prev
  have hr := s16_range raw
  have hb := emaInt_between mode prev.toInt raw.toInt
  exact pat16_toInt (by omega) (by omega)

end Sys2Proof.Machine
end

