-- ==== Sys2Proof/Laws/Encoding.lean ====
section
/-! SUPPORT. The encodings: a sample's two bytes, a payload's samples, a mode's byte, each with its inverse. -/

namespace Sys2Proof

/-- The low byte is `p mod 256` (R54). -/
theorem lowByte_toNat (p : S16) : (lowByte p).toNat = p.toNat % 256 := by
  simp [lowByte]

/-- The high byte is `p div 256` (R54). -/
theorem highByte_toNat (p : S16) : (highByte p).toNat = p.toNat / 256 := by
  simp only [highByte, BitVec.extractLsb'_toNat, Nat.shiftRight_eq_div_pow]
  have := p.isLt
  omega

/-- A receiver's `u = 256*hi + lo` (R55). -/
theorem ofLe16_toNat (lo hi : Byte) : (ofLe16 lo hi).toNat = 256 * hi.toNat + lo.toNat := by
  have h := lo.isLt
  simp only [ofLe16, BitVec.toNat_append, Nat.shiftLeft_eq]
  rw [Nat.mul_comm, ← Nat.two_pow_add_eq_or_of_lt h]

/-- Disassembly undoes assembly (R54, R55). -/
@[simp] theorem ofLe16_bytes (p : S16) : ofLe16 (lowByte p) (highByte p) = p := by
  apply BitVec.eq_of_toNat_eq
  rw [ofLe16_toNat, lowByte_toNat, highByte_toNat]
  omega

@[simp] theorem lowByte_ofLe16 (lo hi : Byte) : lowByte (ofLe16 lo hi) = lo := by
  apply BitVec.eq_of_toNat_eq
  rw [lowByte_toNat, ofLe16_toNat]
  have := lo.isLt
  omega

@[simp] theorem highByte_ofLe16 (lo hi : Byte) : highByte (ofLe16 lo hi) = hi := by
  apply BitVec.eq_of_toNat_eq
  rw [highByte_toNat, ofLe16_toNat]
  have := lo.isLt
  omega

@[simp] theorem le16_ofLe16 (lo hi : Byte) : le16 (ofLe16 lo hi) = [lo, hi] := by
  simp [le16]

/-- The signed reading of a pattern (R55). -/
theorem toInt_of_toNat (p : S16) : p.toInt = if p.toNat < 32768 then (p.toNat : Int) else (p.toNat : Int) - 65536 := by
  rw [BitVec.toInt_eq_toNat_cond]
  split <;> split <;> omega

@[simp] theorem modeOfByte_modeByte (m : Mode) : modeOfByte (modeByte m) = some m := by
  cases m <;> rfl

/-- Only a mode's own byte spells it (R58). -/
theorem modeOfByte_eq_some {b : Byte} {m : Mode} : modeOfByte b = some m ↔ b = modeByte m := by
  constructor
  · intro h
    unfold modeOfByte at h
    split at h
    · next hb => cases h; exact hb
    · split at h
      · next hb => cases h; exact hb
      · cases h
  · rintro rfl; exact modeOfByte_modeByte m

@[simp] theorem sampleOfBytes_sampleBytes (v : Sample) : sampleOfBytes (sampleBytes v) = some v := by
  simp [sampleOfBytes, sampleBytes, le16]

/-- Twelve bytes are the data bytes of the samples they decode to, and no other list decodes (R54, R55). -/
theorem sampleOfBytes_eq_some {l : List Byte} {v : Sample} : sampleOfBytes l = some v ↔ l = sampleBytes v := by
  constructor
  · intro h
    unfold sampleOfBytes at h
    split at h
    · cases h; simp [sampleBytes]
    · cases h
  · rintro rfl; exact sampleOfBytes_sampleBytes v

theorem sampleBytes_length (v : Sample) : (sampleBytes v).length = 12 := rfl

/-- Every list of twelve bytes decodes: no pattern of a sample is reserved (R60). -/
theorem sampleOfBytes_of_length {l : List Byte} (h : l.length = 12) : ∃ v, l = sampleBytes v := by
  match l, h with
  | [a0, a1, b0, b1, c0, c1, d0, d1, e0, e1, f0, f1], _ =>
    exact ⟨⟨ofLe16 a0 a1, ofLe16 b0 b1, ofLe16 c0 c1, ofLe16 d0 d1, ofLe16 e0 e1, ofLe16 f0 f1⟩, by simp [sampleBytes]⟩

@[simp] theorem unpackMotion_motionPayload (v : Sample) : unpackMotion (motionPayload v) = some v := by
  have h : (motionPayload v).take 3 = motionHeader := rfl
  have h' : (motionPayload v).drop 3 = sampleBytes v := rfl
  simp [unpackMotion, h, h']

/-- A motion-data payload is the one its samples give (R110). -/
theorem unpackMotion_eq_some {l : List Byte} {v : Sample} : unpackMotion l = some v ↔ l = motionPayload v := by
  constructor
  · intro h
    unfold unpackMotion at h
    split at h
    · next ht =>
      have hd := sampleOfBytes_eq_some.1 h
      rw [← List.take_append_drop 3 l, ht, hd]; rfl
    · cases h
  · rintro rfl; exact unpackMotion_motionPayload v

@[simp] theorem unpackMode_modePayload (m : Mode) : unpackMode (modePayload m) = some m := by
  cases m <;> rfl

/-- A mode payload is the one its mode gives (R56, R57). -/
theorem unpackMode_eq_some {l : List Byte} {m : Mode} : unpackMode l = some m ↔ l = modePayload m := by
  constructor
  · intro h
    unfold unpackMode at h
    split at h
    · split at h
      · next hid => rw [hid, modeOfByte_eq_some.1 h]; rfl
      · cases h
    · cases h
  · rintro rfl; exact unpackMode_modePayload m

/-- The payloads of kind MotionData are exactly the format MD payloads (R51, R60). -/
theorem payloadFits_motion {l : List Byte} : payloadFits .motionData l = true ↔ ∃ v, l = motionPayload v := by
  constructor
  · intro h
    simp only [payloadFits, Bool.and_eq_true, decide_eq_true_eq] at h
    obtain ⟨v, hv⟩ := sampleOfBytes_of_length (l := l.drop 3) (by have h1 : l.length = 15 := h.1; rw [List.length_drop, h1])
    exact ⟨v, by rw [← List.take_append_drop 3 l, h.2, hv]; rfl⟩
  · rintro ⟨v, rfl⟩; rfl

/-- The payloads of kind ModeChange are exactly the format MM payloads (R56, R60). -/
theorem payloadFits_mode {l : List Byte} : payloadFits .modeChange l = true ↔ ∃ m, l = modePayload m := by
  constructor
  · intro h
    simp only [payloadFits, Bool.or_eq_true, decide_eq_true_eq] at h
    rcases h with h | h
    · exact ⟨.disabled, h⟩
    · exact ⟨.enabled, h⟩
  · rintro ⟨m, rfl⟩; cases m <;> rfl

namespace Machine

@[simp] theorem fieldsOf_motionPayload (v : Sample) : fieldsOf .motionData (motionPayload v) = some (motionFields v) := by
  simp [fieldsOf]

@[simp] theorem fieldsOf_modePayload (m : Mode) : fieldsOf .modeChange (modePayload m) = some (modeFields m) := by
  simp [fieldsOf]

/-- Bytes have semantic fields exactly when they are a payload of the kind (R116, U16). -/
theorem fieldsOf_isSome (kind : EventKind) (l : List Byte) : (fieldsOf kind l).isSome = payloadFits kind l := by
  rw [Bool.eq_iff_iff]
  cases kind with
  | motionData =>
    rw [payloadFits_motion]
    simp only [fieldsOf, Option.isSome_map, Option.isSome_iff_exists, unpackMotion_eq_some]
  | modeChange =>
    rw [payloadFits_mode]
    simp only [fieldsOf, Option.isSome_map, Option.isSome_iff_exists, unpackMode_eq_some]

/-- A request names a mode exactly when its sensor id is 0 and its byte spells the mode (R72, R78). -/
theorem modeRequest_eq_some {id b : Byte} {m : Mode} :
    modeRequest id b = some m ↔ id = Config.sensorIndex ∧ b = modeByte m := by
  unfold modeRequest
  split
  · next h => simp [h, modeOfByte_eq_some]
  · next h => simp [h]

@[simp] theorem modeRequest_modeByte (m : Mode) : modeRequest Config.sensorIndex (modeByte m) = some m :=
  modeRequest_eq_some.2 ⟨rfl, rfl⟩

end Machine

end Sys2Proof
end

