-- ==== Sys2Proof/Laws/Lanes.lean ====
section
/-! SUPPORT. Lanes and registers, lane by lane. -/

namespace Sys2Proof

@[simp] theorem Lanes.get_map {α β : Type} (f : α → β) (v : Lanes α) (k : Fin 6) : (v.map f).get k = f (v.get k) := by
  fin_cases k <;> rfl

@[simp] theorem Lanes.get_zipWith {α β γ : Type} (f : α → β → γ) (u : Lanes α) (v : Lanes β) (k : Fin 6) :
    (Lanes.zipWith f u v).get k = f (u.get k) (v.get k) := by
  fin_cases k <;> rfl

@[simp] theorem Lanes.get_ofFn {α : Type} (f : Fin 6 → α) (k : Fin 6) : (Lanes.ofFn f).get k = f k := by
  fin_cases k <;> rfl

/-- Two groups are equal when they agree in every lane. -/
theorem Lanes.ext_get {α : Type} {u v : Lanes α} (h : ∀ k, u.get k = v.get k) : u = v := by
  cases u; cases v
  have h0 := h 0; have h1 := h 1; have h2 := h 2; have h3 := h 3; have h4 := h 4; have h5 := h 5
  simp only [Lanes.get] at h0 h1 h2 h3 h4 h5
  subst h0 h1 h2 h3 h4 h5; rfl

/-- A six-lane constant reads the constant in every lane. -/
@[simp] theorem Lanes.get_same {α : Type} (a : α) (k : Fin 6) : (Lanes.mk a a a a a a).get k = a := by
  fin_cases k <;> rfl

namespace Machine

@[simp] theorem Reg.wrote_value (v : S16) : (Reg.wrote v).value = v := rfl
@[simp] theorem Reg.wrote_written (v : S16) : (Reg.wrote v).written = true := rfl

@[simp] theorem regValues_get (r : Lanes Reg) (k : Fin 6) : (regValues r).get k = (r.get k).value := by
  simp [regValues]

@[simp] theorem wroteLanes_get (v : Sample) (k : Fin 6) : (wroteLanes v).get k = Reg.wrote (v.get k) := by
  simp [wroteLanes]

@[simp] theorem regValues_wroteLanes (v : Sample) : regValues (wroteLanes v) = v := rfl

@[simp] theorem allWritten_wroteLanes (v : Sample) : allWritten (wroteLanes v) = true := rfl

/-- Every register of a group has been written exactly when each of them has. -/
theorem allWritten_iff (r : Lanes Reg) : allWritten r = true ↔ ∀ k, (r.get k).written = true := by
  constructor
  · intro h k
    simp only [allWritten, Bool.and_eq_true] at h
    fin_cases k <;> simp [Lanes.get, h]
  · intro h
    simp only [allWritten, Bool.and_eq_true]
    exact ⟨⟨⟨⟨⟨h 0, h 1⟩, h 2⟩, h 3⟩, h 4⟩, h 5⟩

/-- The register numbers of RAW (R7). -/
theorem State.x_raw (s : State) (k : Fin 6) : s.x ⟨k.val, by omega⟩ = s.raw.get k := by
  simp [State.x]

/-- The register numbers of FILT (R7). -/
theorem State.x_filt (s : State) (k : Fin 6) : s.x ⟨6 + k.val, by omega⟩ = s.filt.get k := by
  have h : 6 + k.val < 12 := by omega
  simp [State.x, h]

/-- The register numbers of SHAD (R7). -/
theorem State.x_shad (s : State) (k : Fin 6) : s.x ⟨12 + k.val, by omega⟩ = s.shad.get k := by
  have h : ¬ 12 + k.val < 6 := by omega
  have h' : ¬ 12 + k.val < 12 := by omega
  simp [State.x, h, h']

/-- A property of all eighteen registers is one of each of the three groups. -/
theorem State.forall_x (s t : State) (P : Reg → Reg → Prop) :
    (∀ i, P (s.x i) (t.x i)) ↔
      (∀ k, P (s.raw.get k) (t.raw.get k)) ∧ (∀ k, P (s.filt.get k) (t.filt.get k)) ∧
        ∀ k, P (s.shad.get k) (t.shad.get k) := by
  constructor
  · intro h
    refine ⟨fun k => ?_, fun k => ?_, fun k => ?_⟩
    · simpa only [State.x_raw] using h ⟨k.val, by omega⟩
    · simpa only [State.x_filt] using h ⟨6 + k.val, by omega⟩
    · simpa only [State.x_shad] using h ⟨12 + k.val, by omega⟩
  · rintro ⟨hr, hf, hs⟩ i
    simp only [State.x]
    split
    · exact hr _
    · split
      · exact hf _
      · exact hs _

@[simp] theorem unwrittenRegs_written (draw : Nat) (base : Fin 13) (k : Fin 6) :
    ((unwrittenRegs draw base).get k).written = false := by
  simp [unwrittenRegs]

end Machine

end Sys2Proof
end

