-- ==== Sys2Proof/Laws/Memory.lean ====
section
/-! SUPPORT. Payload spaces: a read after a write, every other cell, and the canonical form. -/

namespace Sys2Proof.Machine

@[simp] theorem Memory.read_nil (a : Nat) : Memory.read [] a = none := rfl

/-- A read after a write to the same cell gives the byte written. -/
@[simp] theorem Memory.read_write_same (m : Memory) (a : Nat) (b : Byte) : (m.write a b).read a = some b := by
  induction m with
  | nil => simp [Memory.write, Memory.read]
  | cons c rest ih =>
    obtain ⟨c, x⟩ := c
    simp only [Memory.write]
    split
    · simp [Memory.read]
    · split
      · simp [Memory.read]
      · next h => simp [Memory.read, h, ih]

/-- A write leaves every other cell alone. -/
theorem Memory.read_write_other (m : Memory) {a a' : Nat} (b : Byte) (h : a' ≠ a) :
    (m.write a b).read a' = m.read a' := by
  induction m with
  | nil => simp [Memory.write, Memory.read, h]
  | cons c rest ih =>
    obtain ⟨c, x⟩ := c
    simp only [Memory.write]
    split
    · simp [Memory.read, h]
    · split
      · next hac => subst hac; simp [Memory.read, h]
      · simp [Memory.read, ih]

/-- A lower bound may be lowered. -/
theorem Memory.within_mono {lo lo' hi : Nat} {m : Memory} (h : lo' ≤ lo) (hm : Memory.within lo hi m = true) :
    Memory.within lo' hi m = true := by
  cases m with
  | nil => rfl
  | cons c rest =>
    simp only [Memory.within, Bool.and_eq_true, decide_eq_true_eq] at hm ⊢
    exact ⟨⟨by omega, hm.1.2⟩, hm.2⟩

/-- A write of a cell of the space keeps the canonical form. -/
theorem Memory.within_write {lo hi a : Nat} {m : Memory} (b : Byte) (hlo : lo ≤ a) (hhi : a < hi)
    (hm : Memory.within lo hi m = true) : Memory.within lo hi (m.write a b) = true := by
  induction m generalizing lo with
  | nil => simp [Memory.write, Memory.within, hlo, hhi]
  | cons c rest ih =>
    obtain ⟨c, x⟩ := c
    simp only [Memory.within, Bool.and_eq_true, decide_eq_true_eq] at hm
    obtain ⟨⟨h1, h2⟩, h3⟩ := hm
    simp only [Memory.write]
    split
    · next hac =>
      simp only [Memory.within, Bool.and_eq_true, decide_eq_true_eq]
      exact ⟨⟨hlo, hhi⟩, ⟨by omega, h2⟩, h3⟩
    · split
      · next hac => subst hac; simp [Memory.within, hlo, hhi, h3]
      · next hac hne =>
        simp only [Memory.within, Bool.and_eq_true, decide_eq_true_eq]
        exact ⟨⟨h1, h2⟩, ih (by omega) h3⟩

/-- The empty space is in canonical form. -/
@[simp] theorem Memory.wf_nil (size : Nat) : Memory.wf size [] = true := rfl

/-- Every write of a cell that exists keeps the canonical form. -/
theorem Memory.wf_write {size a : Nat} {m : Memory} (b : Byte) (ha : a < size) (hm : m.wf size = true) :
    (m.write a b).wf size = true :=
  Memory.within_write b (Nat.zero_le a) ha hm

/-- PUT16LE keeps the canonical form (R105). -/
theorem Memory.wf_put16le {size i : Nat} {m : Memory} (v : S16) (hi : i + 1 < size) (hm : m.wf size = true) :
    (m.put16le i v).wf size = true :=
  Memory.wf_write _ hi (Memory.wf_write _ (by omega) hm)

/-- PUT16LE writes the low byte at the lower index, the high byte at the next, and nothing else (R105). -/
theorem Memory.read_put16le (m : Memory) (i : Nat) (v : S16) :
    (m.put16le i v).read i = some (lowByte v) ∧ (m.put16le i v).read (i + 1) = some (highByte v) ∧
      ∀ a, a ≠ i → a ≠ i + 1 → (m.put16le i v).read a = m.read a := by
  refine ⟨?_, ?_, fun a h h' => ?_⟩
  · rw [Memory.put16le, Memory.read_write_other _ _ (by omega)]; simp
  · simp [Memory.put16le]
  · rw [Memory.put16le, Memory.read_write_other _ _ h', Memory.read_write_other _ _ h]

/-- What a canonical space holds lies inside it. -/
theorem Memory.read_of_wf {size a : Nat} {m : Memory} (hm : m.wf size = true) (ha : size ≤ a) : m.read a = none := by
  have key : ∀ (lo : Nat) (m : Memory), Memory.within lo size m = true → m.read a = none := by
    intro lo m
    induction m generalizing lo with
    | nil => intro _; rfl
    | cons c rest ih =>
      obtain ⟨c, x⟩ := c
      intro h
      simp only [Memory.within, Bool.and_eq_true, decide_eq_true_eq] at h
      have hne : a ≠ c := by omega
      simp [Memory.read, hne, ih _ h.2]
  exact key 0 m hm

/-- The cells of PAY after ENCMD, in order (R36, R106). -/
theorem payOf_cells (v : Sample) : payOf v =
    [(0, Config.sensorIndex), (1, Config.channelMask), (2, Config.byteCount),
      (3, lowByte v.ax), (4, highByte v.ax), (5, lowByte v.ay), (6, highByte v.ay), (7, lowByte v.az),
      (8, highByte v.az), (9, lowByte v.gx), (10, highByte v.gx), (11, lowByte v.gy), (12, highByte v.gy),
      (13, lowByte v.gz), (14, highByte v.gz)] := rfl

/-- The three constant bytes of PAY after ENCMD (R106). -/
theorem payOf_read_header (v : Sample) :
    (payOf v).read 0 = some Config.sensorIndex ∧ (payOf v).read 1 = some Config.channelMask ∧
      (payOf v).read 2 = some Config.byteCount := by
  rw [payOf_cells]; simp [Memory.read]

/-- The two bytes of each lane in PAY after ENCMD (R36, R106). -/
theorem payOf_read_lane (v : Sample) (k : Fin 6) :
    (payOf v).read (3 + 2 * k.val) = some (lowByte (v.get k)) ∧
      (payOf v).read (4 + 2 * k.val) = some (highByte (v.get k)) := by
  rw [payOf_cells]
  fin_cases k <;> simp [Memory.read, Lanes.get]

/-- The two bytes of MPAY after ENCMM (R109). -/
theorem mpayOf_read (m : Mode) :
    (mpayOf m).read 0 = some Config.sensorIndex ∧ (mpayOf m).read 1 = some (modeByte m) := by
  constructor <;> rfl

/-- The bytes ENCMD returns are the format MD payload (R51, R106). -/
@[simp] theorem payOf_bytes (v : Sample) : (payOf v).bytes = motionPayload v := rfl

@[simp] theorem payOf_wf (v : Sample) : (payOf v).wf Config.mdLen = true := rfl

/-- The bytes ENCMM returns are the format MM payload (R56, R109). -/
@[simp] theorem mpayOf_bytes (m : Mode) : (mpayOf m).bytes = modePayload m := rfl

@[simp] theorem mpayOf_wf (m : Mode) : (mpayOf m).wf Config.mmLen = true := rfl

end Sys2Proof.Machine
end

