-- ==== Sys2Proof/Laws/State.lean ====
section
/-! SUPPORT. One lemma for each field and each update of the state, all true by rfl. -/

namespace Sys2Proof.Machine

@[simp] theorem State.setRaw_raw (s : State) (r : Lanes Reg) : (s.setRaw r).raw = r := rfl
@[simp] theorem State.setRaw_filt (s : State) (r : Lanes Reg) : (s.setRaw r).filt = s.filt := rfl
@[simp] theorem State.setRaw_shad (s : State) (r : Lanes Reg) : (s.setRaw r).shad = s.shad := rfl
@[simp] theorem State.setRaw_latch (s : State) (r : Lanes Reg) : (s.setRaw r).latch = s.latch := rfl
@[simp] theorem State.setRaw_mode (s : State) (r : Lanes Reg) : (s.setRaw r).mode = s.mode := rfl
@[simp] theorem State.setRaw_pay (s : State) (r : Lanes Reg) : (s.setRaw r).pay = s.pay := rfl
@[simp] theorem State.setRaw_mpay (s : State) (r : Lanes Reg) : (s.setRaw r).mpay = s.mpay := rfl
@[simp] theorem State.setRaw_tx (s : State) (r : Lanes Reg) : (s.setRaw r).tx = s.tx := rfl
@[simp] theorem State.setRaw_ctl (s : State) (r : Lanes Reg) : (s.setRaw r).ctl = s.ctl := rfl
@[simp] theorem State.setRaw_pending (s : State) (r : Lanes Reg) : (s.setRaw r).pending = s.pending := rfl
@[simp] theorem State.setRaw_truncMode (s : State) (r : Lanes Reg) : (s.setRaw r).truncMode = s.truncMode := rfl
@[simp] theorem State.setRaw_observer (s : State) (r : Lanes Reg) : (s.setRaw r).observer = s.observer := rfl
@[simp] theorem State.setRaw_sensor (s : State) (r : Lanes Reg) : (s.setRaw r).sensor = s.sensor := rfl
@[simp] theorem State.setRaw_draws (s : State) (r : Lanes Reg) : (s.setRaw r).draws = s.draws := rfl
@[simp] theorem State.setRaw_input (s : State) (r : Lanes Reg) : (s.setRaw r).input = s.input := rfl
@[simp] theorem State.setRaw_inside (s : State) (r : Lanes Reg) : (s.setRaw r).inside = s.inside := rfl
@[simp] theorem State.setRaw_turns (s : State) (r : Lanes Reg) : (s.setRaw r).turns = s.turns := rfl

@[simp] theorem State.setFilt_raw (s : State) (r : Lanes Reg) : (s.setFilt r).raw = s.raw := rfl
@[simp] theorem State.setFilt_filt (s : State) (r : Lanes Reg) : (s.setFilt r).filt = r := rfl
@[simp] theorem State.setFilt_shad (s : State) (r : Lanes Reg) : (s.setFilt r).shad = s.shad := rfl
@[simp] theorem State.setFilt_latch (s : State) (r : Lanes Reg) : (s.setFilt r).latch = s.latch := rfl
@[simp] theorem State.setFilt_mode (s : State) (r : Lanes Reg) : (s.setFilt r).mode = s.mode := rfl
@[simp] theorem State.setFilt_pay (s : State) (r : Lanes Reg) : (s.setFilt r).pay = s.pay := rfl
@[simp] theorem State.setFilt_mpay (s : State) (r : Lanes Reg) : (s.setFilt r).mpay = s.mpay := rfl
@[simp] theorem State.setFilt_tx (s : State) (r : Lanes Reg) : (s.setFilt r).tx = s.tx := rfl
@[simp] theorem State.setFilt_ctl (s : State) (r : Lanes Reg) : (s.setFilt r).ctl = s.ctl := rfl
@[simp] theorem State.setFilt_pending (s : State) (r : Lanes Reg) : (s.setFilt r).pending = s.pending := rfl
@[simp] theorem State.setFilt_truncMode (s : State) (r : Lanes Reg) : (s.setFilt r).truncMode = s.truncMode := rfl
@[simp] theorem State.setFilt_observer (s : State) (r : Lanes Reg) : (s.setFilt r).observer = s.observer := rfl
@[simp] theorem State.setFilt_sensor (s : State) (r : Lanes Reg) : (s.setFilt r).sensor = s.sensor := rfl
@[simp] theorem State.setFilt_draws (s : State) (r : Lanes Reg) : (s.setFilt r).draws = s.draws := rfl
@[simp] theorem State.setFilt_input (s : State) (r : Lanes Reg) : (s.setFilt r).input = s.input := rfl
@[simp] theorem State.setFilt_inside (s : State) (r : Lanes Reg) : (s.setFilt r).inside = s.inside := rfl
@[simp] theorem State.setFilt_turns (s : State) (r : Lanes Reg) : (s.setFilt r).turns = s.turns := rfl

@[simp] theorem State.setShad_raw (s : State) (r : Lanes Reg) : (s.setShad r).raw = s.raw := rfl
@[simp] theorem State.setShad_filt (s : State) (r : Lanes Reg) : (s.setShad r).filt = s.filt := rfl
@[simp] theorem State.setShad_shad (s : State) (r : Lanes Reg) : (s.setShad r).shad = r := rfl
@[simp] theorem State.setShad_latch (s : State) (r : Lanes Reg) : (s.setShad r).latch = s.latch := rfl
@[simp] theorem State.setShad_mode (s : State) (r : Lanes Reg) : (s.setShad r).mode = s.mode := rfl
@[simp] theorem State.setShad_pay (s : State) (r : Lanes Reg) : (s.setShad r).pay = s.pay := rfl
@[simp] theorem State.setShad_mpay (s : State) (r : Lanes Reg) : (s.setShad r).mpay = s.mpay := rfl
@[simp] theorem State.setShad_tx (s : State) (r : Lanes Reg) : (s.setShad r).tx = s.tx := rfl
@[simp] theorem State.setShad_ctl (s : State) (r : Lanes Reg) : (s.setShad r).ctl = s.ctl := rfl
@[simp] theorem State.setShad_pending (s : State) (r : Lanes Reg) : (s.setShad r).pending = s.pending := rfl
@[simp] theorem State.setShad_truncMode (s : State) (r : Lanes Reg) : (s.setShad r).truncMode = s.truncMode := rfl
@[simp] theorem State.setShad_observer (s : State) (r : Lanes Reg) : (s.setShad r).observer = s.observer := rfl
@[simp] theorem State.setShad_sensor (s : State) (r : Lanes Reg) : (s.setShad r).sensor = s.sensor := rfl
@[simp] theorem State.setShad_draws (s : State) (r : Lanes Reg) : (s.setShad r).draws = s.draws := rfl
@[simp] theorem State.setShad_input (s : State) (r : Lanes Reg) : (s.setShad r).input = s.input := rfl
@[simp] theorem State.setShad_inside (s : State) (r : Lanes Reg) : (s.setShad r).inside = s.inside := rfl
@[simp] theorem State.setShad_turns (s : State) (r : Lanes Reg) : (s.setShad r).turns = s.turns := rfl

@[simp] theorem State.setLatch_raw (s : State) (b : Bool) : (s.setLatch b).raw = s.raw := rfl
@[simp] theorem State.setLatch_filt (s : State) (b : Bool) : (s.setLatch b).filt = s.filt := rfl
@[simp] theorem State.setLatch_shad (s : State) (b : Bool) : (s.setLatch b).shad = s.shad := rfl
@[simp] theorem State.setLatch_latch (s : State) (b : Bool) : (s.setLatch b).latch = b := rfl
@[simp] theorem State.setLatch_mode (s : State) (b : Bool) : (s.setLatch b).mode = s.mode := rfl
@[simp] theorem State.setLatch_pay (s : State) (b : Bool) : (s.setLatch b).pay = s.pay := rfl
@[simp] theorem State.setLatch_mpay (s : State) (b : Bool) : (s.setLatch b).mpay = s.mpay := rfl
@[simp] theorem State.setLatch_tx (s : State) (b : Bool) : (s.setLatch b).tx = s.tx := rfl
@[simp] theorem State.setLatch_ctl (s : State) (b : Bool) : (s.setLatch b).ctl = s.ctl := rfl
@[simp] theorem State.setLatch_pending (s : State) (b : Bool) : (s.setLatch b).pending = s.pending := rfl
@[simp] theorem State.setLatch_truncMode (s : State) (b : Bool) : (s.setLatch b).truncMode = s.truncMode := rfl
@[simp] theorem State.setLatch_observer (s : State) (b : Bool) : (s.setLatch b).observer = s.observer := rfl
@[simp] theorem State.setLatch_sensor (s : State) (b : Bool) : (s.setLatch b).sensor = s.sensor := rfl
@[simp] theorem State.setLatch_draws (s : State) (b : Bool) : (s.setLatch b).draws = s.draws := rfl
@[simp] theorem State.setLatch_input (s : State) (b : Bool) : (s.setLatch b).input = s.input := rfl
@[simp] theorem State.setLatch_inside (s : State) (b : Bool) : (s.setLatch b).inside = s.inside := rfl
@[simp] theorem State.setLatch_turns (s : State) (b : Bool) : (s.setLatch b).turns = s.turns := rfl

@[simp] theorem State.setMode_raw (s : State) (m : Mode) : (s.setMode m).raw = s.raw := rfl
@[simp] theorem State.setMode_filt (s : State) (m : Mode) : (s.setMode m).filt = s.filt := rfl
@[simp] theorem State.setMode_shad (s : State) (m : Mode) : (s.setMode m).shad = s.shad := rfl
@[simp] theorem State.setMode_latch (s : State) (m : Mode) : (s.setMode m).latch = s.latch := rfl
@[simp] theorem State.setMode_mode (s : State) (m : Mode) : (s.setMode m).mode = m := rfl
@[simp] theorem State.setMode_pay (s : State) (m : Mode) : (s.setMode m).pay = s.pay := rfl
@[simp] theorem State.setMode_mpay (s : State) (m : Mode) : (s.setMode m).mpay = s.mpay := rfl
@[simp] theorem State.setMode_tx (s : State) (m : Mode) : (s.setMode m).tx = s.tx := rfl
@[simp] theorem State.setMode_ctl (s : State) (m : Mode) : (s.setMode m).ctl = s.ctl := rfl
@[simp] theorem State.setMode_pending (s : State) (m : Mode) : (s.setMode m).pending = s.pending := rfl
@[simp] theorem State.setMode_truncMode (s : State) (m : Mode) : (s.setMode m).truncMode = s.truncMode := rfl
@[simp] theorem State.setMode_observer (s : State) (m : Mode) : (s.setMode m).observer = s.observer := rfl
@[simp] theorem State.setMode_sensor (s : State) (m : Mode) : (s.setMode m).sensor = s.sensor := rfl
@[simp] theorem State.setMode_draws (s : State) (m : Mode) : (s.setMode m).draws = s.draws := rfl
@[simp] theorem State.setMode_input (s : State) (m : Mode) : (s.setMode m).input = s.input := rfl
@[simp] theorem State.setMode_inside (s : State) (m : Mode) : (s.setMode m).inside = s.inside := rfl
@[simp] theorem State.setMode_turns (s : State) (m : Mode) : (s.setMode m).turns = s.turns := rfl

@[simp] theorem State.setPending_raw (s : State) (b : Bool) : (s.setPending b).raw = s.raw := rfl
@[simp] theorem State.setPending_filt (s : State) (b : Bool) : (s.setPending b).filt = s.filt := rfl
@[simp] theorem State.setPending_shad (s : State) (b : Bool) : (s.setPending b).shad = s.shad := rfl
@[simp] theorem State.setPending_latch (s : State) (b : Bool) : (s.setPending b).latch = s.latch := rfl
@[simp] theorem State.setPending_mode (s : State) (b : Bool) : (s.setPending b).mode = s.mode := rfl
@[simp] theorem State.setPending_pay (s : State) (b : Bool) : (s.setPending b).pay = s.pay := rfl
@[simp] theorem State.setPending_mpay (s : State) (b : Bool) : (s.setPending b).mpay = s.mpay := rfl
@[simp] theorem State.setPending_tx (s : State) (b : Bool) : (s.setPending b).tx = s.tx := rfl
@[simp] theorem State.setPending_ctl (s : State) (b : Bool) : (s.setPending b).ctl = s.ctl := rfl
@[simp] theorem State.setPending_pending (s : State) (b : Bool) : (s.setPending b).pending = b := rfl
@[simp] theorem State.setPending_truncMode (s : State) (b : Bool) : (s.setPending b).truncMode = s.truncMode := rfl
@[simp] theorem State.setPending_observer (s : State) (b : Bool) : (s.setPending b).observer = s.observer := rfl
@[simp] theorem State.setPending_sensor (s : State) (b : Bool) : (s.setPending b).sensor = s.sensor := rfl
@[simp] theorem State.setPending_draws (s : State) (b : Bool) : (s.setPending b).draws = s.draws := rfl
@[simp] theorem State.setPending_input (s : State) (b : Bool) : (s.setPending b).input = s.input := rfl
@[simp] theorem State.setPending_inside (s : State) (b : Bool) : (s.setPending b).inside = s.inside := rfl
@[simp] theorem State.setPending_turns (s : State) (b : Bool) : (s.setPending b).turns = s.turns := rfl

@[simp] theorem State.setPay_raw (s : State) (m : Memory) : (s.setPay m).raw = s.raw := rfl
@[simp] theorem State.setPay_filt (s : State) (m : Memory) : (s.setPay m).filt = s.filt := rfl
@[simp] theorem State.setPay_shad (s : State) (m : Memory) : (s.setPay m).shad = s.shad := rfl
@[simp] theorem State.setPay_latch (s : State) (m : Memory) : (s.setPay m).latch = s.latch := rfl
@[simp] theorem State.setPay_mode (s : State) (m : Memory) : (s.setPay m).mode = s.mode := rfl
@[simp] theorem State.setPay_pay (s : State) (m : Memory) : (s.setPay m).pay = m := rfl
@[simp] theorem State.setPay_mpay (s : State) (m : Memory) : (s.setPay m).mpay = s.mpay := rfl
@[simp] theorem State.setPay_tx (s : State) (m : Memory) : (s.setPay m).tx = s.tx := rfl
@[simp] theorem State.setPay_ctl (s : State) (m : Memory) : (s.setPay m).ctl = s.ctl := rfl
@[simp] theorem State.setPay_pending (s : State) (m : Memory) : (s.setPay m).pending = s.pending := rfl
@[simp] theorem State.setPay_truncMode (s : State) (m : Memory) : (s.setPay m).truncMode = s.truncMode := rfl
@[simp] theorem State.setPay_observer (s : State) (m : Memory) : (s.setPay m).observer = s.observer := rfl
@[simp] theorem State.setPay_sensor (s : State) (m : Memory) : (s.setPay m).sensor = s.sensor := rfl
@[simp] theorem State.setPay_draws (s : State) (m : Memory) : (s.setPay m).draws = s.draws := rfl
@[simp] theorem State.setPay_input (s : State) (m : Memory) : (s.setPay m).input = s.input := rfl
@[simp] theorem State.setPay_inside (s : State) (m : Memory) : (s.setPay m).inside = s.inside := rfl
@[simp] theorem State.setPay_turns (s : State) (m : Memory) : (s.setPay m).turns = s.turns := rfl

@[simp] theorem State.setMpay_raw (s : State) (m : Memory) : (s.setMpay m).raw = s.raw := rfl
@[simp] theorem State.setMpay_filt (s : State) (m : Memory) : (s.setMpay m).filt = s.filt := rfl
@[simp] theorem State.setMpay_shad (s : State) (m : Memory) : (s.setMpay m).shad = s.shad := rfl
@[simp] theorem State.setMpay_latch (s : State) (m : Memory) : (s.setMpay m).latch = s.latch := rfl
@[simp] theorem State.setMpay_mode (s : State) (m : Memory) : (s.setMpay m).mode = s.mode := rfl
@[simp] theorem State.setMpay_pay (s : State) (m : Memory) : (s.setMpay m).pay = s.pay := rfl
@[simp] theorem State.setMpay_mpay (s : State) (m : Memory) : (s.setMpay m).mpay = m := rfl
@[simp] theorem State.setMpay_tx (s : State) (m : Memory) : (s.setMpay m).tx = s.tx := rfl
@[simp] theorem State.setMpay_ctl (s : State) (m : Memory) : (s.setMpay m).ctl = s.ctl := rfl
@[simp] theorem State.setMpay_pending (s : State) (m : Memory) : (s.setMpay m).pending = s.pending := rfl
@[simp] theorem State.setMpay_truncMode (s : State) (m : Memory) : (s.setMpay m).truncMode = s.truncMode := rfl
@[simp] theorem State.setMpay_observer (s : State) (m : Memory) : (s.setMpay m).observer = s.observer := rfl
@[simp] theorem State.setMpay_sensor (s : State) (m : Memory) : (s.setMpay m).sensor = s.sensor := rfl
@[simp] theorem State.setMpay_draws (s : State) (m : Memory) : (s.setMpay m).draws = s.draws := rfl
@[simp] theorem State.setMpay_input (s : State) (m : Memory) : (s.setMpay m).input = s.input := rfl
@[simp] theorem State.setMpay_inside (s : State) (m : Memory) : (s.setMpay m).inside = s.inside := rfl
@[simp] theorem State.setMpay_turns (s : State) (m : Memory) : (s.setMpay m).turns = s.turns := rfl

@[simp] theorem State.emit_raw (s : State) (k : EventKind) (p : List Byte) : (s.emit k p).raw = s.raw := rfl
@[simp] theorem State.emit_filt (s : State) (k : EventKind) (p : List Byte) : (s.emit k p).filt = s.filt := rfl
@[simp] theorem State.emit_shad (s : State) (k : EventKind) (p : List Byte) : (s.emit k p).shad = s.shad := rfl
@[simp] theorem State.emit_latch (s : State) (k : EventKind) (p : List Byte) : (s.emit k p).latch = s.latch := rfl
@[simp] theorem State.emit_mode (s : State) (k : EventKind) (p : List Byte) : (s.emit k p).mode = s.mode := rfl
@[simp] theorem State.emit_pay (s : State) (k : EventKind) (p : List Byte) : (s.emit k p).pay = s.pay := rfl
@[simp] theorem State.emit_mpay (s : State) (k : EventKind) (p : List Byte) : (s.emit k p).mpay = s.mpay := rfl
@[simp] theorem State.emit_tx (s : State) (k : EventKind) (p : List Byte) : (s.emit k p).tx = s.tx ++ [(k, p)] := rfl
@[simp] theorem State.emit_ctl (s : State) (k : EventKind) (p : List Byte) : (s.emit k p).ctl = s.ctl := rfl
@[simp] theorem State.emit_pending (s : State) (k : EventKind) (p : List Byte) : (s.emit k p).pending = s.pending := rfl
@[simp] theorem State.emit_truncMode (s : State) (k : EventKind) (p : List Byte) : (s.emit k p).truncMode = s.truncMode := rfl
@[simp] theorem State.emit_observer (s : State) (k : EventKind) (p : List Byte) : (s.emit k p).observer = s.observer := rfl
@[simp] theorem State.emit_sensor (s : State) (k : EventKind) (p : List Byte) : (s.emit k p).sensor = s.sensor := rfl
@[simp] theorem State.emit_draws (s : State) (k : EventKind) (p : List Byte) : (s.emit k p).draws = s.draws := rfl
@[simp] theorem State.emit_input (s : State) (k : EventKind) (p : List Byte) : (s.emit k p).input = s.input := rfl
@[simp] theorem State.emit_inside (s : State) (k : EventKind) (p : List Byte) : (s.emit k p).inside = s.inside := rfl
@[simp] theorem State.emit_turns (s : State) (k : EventKind) (p : List Byte) : (s.emit k p).turns = s.turns := rfl

@[simp] theorem State.control_raw (s : State) (e : CtlEvent) : (s.control e).raw = s.raw := rfl
@[simp] theorem State.control_filt (s : State) (e : CtlEvent) : (s.control e).filt = s.filt := rfl
@[simp] theorem State.control_shad (s : State) (e : CtlEvent) : (s.control e).shad = s.shad := rfl
@[simp] theorem State.control_latch (s : State) (e : CtlEvent) : (s.control e).latch = s.latch := rfl
@[simp] theorem State.control_mode (s : State) (e : CtlEvent) : (s.control e).mode = s.mode := rfl
@[simp] theorem State.control_pay (s : State) (e : CtlEvent) : (s.control e).pay = s.pay := rfl
@[simp] theorem State.control_mpay (s : State) (e : CtlEvent) : (s.control e).mpay = s.mpay := rfl
@[simp] theorem State.control_tx (s : State) (e : CtlEvent) : (s.control e).tx = s.tx := rfl
@[simp] theorem State.control_ctl (s : State) (e : CtlEvent) : (s.control e).ctl = s.ctl ++ [e] := rfl
@[simp] theorem State.control_pending (s : State) (e : CtlEvent) : (s.control e).pending = s.pending := rfl
@[simp] theorem State.control_truncMode (s : State) (e : CtlEvent) : (s.control e).truncMode = s.truncMode := rfl
@[simp] theorem State.control_observer (s : State) (e : CtlEvent) : (s.control e).observer = s.observer := rfl
@[simp] theorem State.control_sensor (s : State) (e : CtlEvent) : (s.control e).sensor = s.sensor := rfl
@[simp] theorem State.control_draws (s : State) (e : CtlEvent) : (s.control e).draws = s.draws := rfl
@[simp] theorem State.control_input (s : State) (e : CtlEvent) : (s.control e).input = s.input := rfl
@[simp] theorem State.control_inside (s : State) (e : CtlEvent) : (s.control e).inside = s.inside := rfl
@[simp] theorem State.control_turns (s : State) (e : CtlEvent) : (s.control e).turns = s.turns := rfl

@[simp] theorem State.setSensor_raw (s : State) (a : List Sample) : (s.setSensor a).raw = s.raw := rfl
@[simp] theorem State.setSensor_filt (s : State) (a : List Sample) : (s.setSensor a).filt = s.filt := rfl
@[simp] theorem State.setSensor_shad (s : State) (a : List Sample) : (s.setSensor a).shad = s.shad := rfl
@[simp] theorem State.setSensor_latch (s : State) (a : List Sample) : (s.setSensor a).latch = s.latch := rfl
@[simp] theorem State.setSensor_mode (s : State) (a : List Sample) : (s.setSensor a).mode = s.mode := rfl
@[simp] theorem State.setSensor_pay (s : State) (a : List Sample) : (s.setSensor a).pay = s.pay := rfl
@[simp] theorem State.setSensor_mpay (s : State) (a : List Sample) : (s.setSensor a).mpay = s.mpay := rfl
@[simp] theorem State.setSensor_tx (s : State) (a : List Sample) : (s.setSensor a).tx = s.tx := rfl
@[simp] theorem State.setSensor_ctl (s : State) (a : List Sample) : (s.setSensor a).ctl = s.ctl := rfl
@[simp] theorem State.setSensor_pending (s : State) (a : List Sample) : (s.setSensor a).pending = s.pending := rfl
@[simp] theorem State.setSensor_truncMode (s : State) (a : List Sample) : (s.setSensor a).truncMode = s.truncMode := rfl
@[simp] theorem State.setSensor_observer (s : State) (a : List Sample) : (s.setSensor a).observer = s.observer := rfl
@[simp] theorem State.setSensor_sensor (s : State) (a : List Sample) : (s.setSensor a).sensor = a := rfl
@[simp] theorem State.setSensor_draws (s : State) (a : List Sample) : (s.setSensor a).draws = s.draws := rfl
@[simp] theorem State.setSensor_input (s : State) (a : List Sample) : (s.setSensor a).input = s.input := rfl
@[simp] theorem State.setSensor_inside (s : State) (a : List Sample) : (s.setSensor a).inside = s.inside := rfl
@[simp] theorem State.setSensor_turns (s : State) (a : List Sample) : (s.setSensor a).turns = s.turns := rfl

@[simp] theorem State.setObserver_raw (s : State) (o : Observer) : (s.setObserver o).raw = s.raw := rfl
@[simp] theorem State.setObserver_filt (s : State) (o : Observer) : (s.setObserver o).filt = s.filt := rfl
@[simp] theorem State.setObserver_shad (s : State) (o : Observer) : (s.setObserver o).shad = s.shad := rfl
@[simp] theorem State.setObserver_latch (s : State) (o : Observer) : (s.setObserver o).latch = s.latch := rfl
@[simp] theorem State.setObserver_mode (s : State) (o : Observer) : (s.setObserver o).mode = s.mode := rfl
@[simp] theorem State.setObserver_pay (s : State) (o : Observer) : (s.setObserver o).pay = s.pay := rfl
@[simp] theorem State.setObserver_mpay (s : State) (o : Observer) : (s.setObserver o).mpay = s.mpay := rfl
@[simp] theorem State.setObserver_tx (s : State) (o : Observer) : (s.setObserver o).tx = s.tx := rfl
@[simp] theorem State.setObserver_ctl (s : State) (o : Observer) : (s.setObserver o).ctl = s.ctl := rfl
@[simp] theorem State.setObserver_pending (s : State) (o : Observer) : (s.setObserver o).pending = s.pending := rfl
@[simp] theorem State.setObserver_truncMode (s : State) (o : Observer) : (s.setObserver o).truncMode = s.truncMode := rfl
@[simp] theorem State.setObserver_observer (s : State) (o : Observer) : (s.setObserver o).observer = o := rfl
@[simp] theorem State.setObserver_sensor (s : State) (o : Observer) : (s.setObserver o).sensor = s.sensor := rfl
@[simp] theorem State.setObserver_draws (s : State) (o : Observer) : (s.setObserver o).draws = s.draws := rfl
@[simp] theorem State.setObserver_input (s : State) (o : Observer) : (s.setObserver o).input = s.input := rfl
@[simp] theorem State.setObserver_inside (s : State) (o : Observer) : (s.setObserver o).inside = s.inside := rfl
@[simp] theorem State.setObserver_turns (s : State) (o : Observer) : (s.setObserver o).turns = s.turns := rfl

@[simp] theorem State.setInput_raw (s : State) (p : List Packet) : (s.setInput p).raw = s.raw := rfl
@[simp] theorem State.setInput_filt (s : State) (p : List Packet) : (s.setInput p).filt = s.filt := rfl
@[simp] theorem State.setInput_shad (s : State) (p : List Packet) : (s.setInput p).shad = s.shad := rfl
@[simp] theorem State.setInput_latch (s : State) (p : List Packet) : (s.setInput p).latch = s.latch := rfl
@[simp] theorem State.setInput_mode (s : State) (p : List Packet) : (s.setInput p).mode = s.mode := rfl
@[simp] theorem State.setInput_pay (s : State) (p : List Packet) : (s.setInput p).pay = s.pay := rfl
@[simp] theorem State.setInput_mpay (s : State) (p : List Packet) : (s.setInput p).mpay = s.mpay := rfl
@[simp] theorem State.setInput_tx (s : State) (p : List Packet) : (s.setInput p).tx = s.tx := rfl
@[simp] theorem State.setInput_ctl (s : State) (p : List Packet) : (s.setInput p).ctl = s.ctl := rfl
@[simp] theorem State.setInput_pending (s : State) (p : List Packet) : (s.setInput p).pending = s.pending := rfl
@[simp] theorem State.setInput_truncMode (s : State) (p : List Packet) : (s.setInput p).truncMode = s.truncMode := rfl
@[simp] theorem State.setInput_observer (s : State) (p : List Packet) : (s.setInput p).observer = s.observer := rfl
@[simp] theorem State.setInput_sensor (s : State) (p : List Packet) : (s.setInput p).sensor = s.sensor := rfl
@[simp] theorem State.setInput_draws (s : State) (p : List Packet) : (s.setInput p).draws = s.draws := rfl
@[simp] theorem State.setInput_input (s : State) (p : List Packet) : (s.setInput p).input = p := rfl
@[simp] theorem State.setInput_inside (s : State) (p : List Packet) : (s.setInput p).inside = s.inside := rfl
@[simp] theorem State.setInput_turns (s : State) (p : List Packet) : (s.setInput p).turns = s.turns := rfl

@[simp] theorem State.nextDraw_raw (s : State) : (s.nextDraw).raw = s.raw := rfl
@[simp] theorem State.nextDraw_filt (s : State) : (s.nextDraw).filt = s.filt := rfl
@[simp] theorem State.nextDraw_shad (s : State) : (s.nextDraw).shad = s.shad := rfl
@[simp] theorem State.nextDraw_latch (s : State) : (s.nextDraw).latch = s.latch := rfl
@[simp] theorem State.nextDraw_mode (s : State) : (s.nextDraw).mode = s.mode := rfl
@[simp] theorem State.nextDraw_pay (s : State) : (s.nextDraw).pay = s.pay := rfl
@[simp] theorem State.nextDraw_mpay (s : State) : (s.nextDraw).mpay = s.mpay := rfl
@[simp] theorem State.nextDraw_tx (s : State) : (s.nextDraw).tx = s.tx := rfl
@[simp] theorem State.nextDraw_ctl (s : State) : (s.nextDraw).ctl = s.ctl := rfl
@[simp] theorem State.nextDraw_pending (s : State) : (s.nextDraw).pending = s.pending := rfl
@[simp] theorem State.nextDraw_truncMode (s : State) : (s.nextDraw).truncMode = s.truncMode := rfl
@[simp] theorem State.nextDraw_observer (s : State) : (s.nextDraw).observer = s.observer := rfl
@[simp] theorem State.nextDraw_sensor (s : State) : (s.nextDraw).sensor = s.sensor := rfl
@[simp] theorem State.nextDraw_draws (s : State) : (s.nextDraw).draws = s.draws + 1 := rfl
@[simp] theorem State.nextDraw_input (s : State) : (s.nextDraw).input = s.input := rfl
@[simp] theorem State.nextDraw_inside (s : State) : (s.nextDraw).inside = s.inside := rfl
@[simp] theorem State.nextDraw_turns (s : State) : (s.nextDraw).turns = s.turns := rfl

@[simp] theorem State.takeInterrupt_raw (s : State) : (s.takeInterrupt).raw = s.raw := rfl
@[simp] theorem State.takeInterrupt_filt (s : State) : (s.takeInterrupt).filt = s.filt := rfl
@[simp] theorem State.takeInterrupt_shad (s : State) : (s.takeInterrupt).shad = s.shad := rfl
@[simp] theorem State.takeInterrupt_latch (s : State) : (s.takeInterrupt).latch = true := rfl
@[simp] theorem State.takeInterrupt_mode (s : State) : (s.takeInterrupt).mode = s.mode := rfl
@[simp] theorem State.takeInterrupt_pay (s : State) : (s.takeInterrupt).pay = s.pay := rfl
@[simp] theorem State.takeInterrupt_mpay (s : State) : (s.takeInterrupt).mpay = s.mpay := rfl
@[simp] theorem State.takeInterrupt_tx (s : State) : (s.takeInterrupt).tx = s.tx := rfl
@[simp] theorem State.takeInterrupt_ctl (s : State) : (s.takeInterrupt).ctl = s.ctl := rfl
@[simp] theorem State.takeInterrupt_pending (s : State) : (s.takeInterrupt).pending = s.pending := rfl
@[simp] theorem State.takeInterrupt_truncMode (s : State) : (s.takeInterrupt).truncMode = s.truncMode := rfl
@[simp] theorem State.takeInterrupt_observer (s : State) : (s.takeInterrupt).observer = s.observer := rfl
@[simp] theorem State.takeInterrupt_sensor (s : State) : (s.takeInterrupt).sensor = s.sensor := rfl
@[simp] theorem State.takeInterrupt_draws (s : State) : (s.takeInterrupt).draws = s.draws := rfl
@[simp] theorem State.takeInterrupt_input (s : State) : (s.takeInterrupt).input = s.input := rfl
@[simp] theorem State.takeInterrupt_inside (s : State) : (s.takeInterrupt).inside = s.inside := rfl
@[simp] theorem State.takeInterrupt_turns (s : State) : (s.takeInterrupt).turns = s.turns := rfl

@[simp] theorem State.setInside_raw (s : State) (ts : List Task) : (s.setInside ts).raw = s.raw := rfl
@[simp] theorem State.setInside_filt (s : State) (ts : List Task) : (s.setInside ts).filt = s.filt := rfl
@[simp] theorem State.setInside_shad (s : State) (ts : List Task) : (s.setInside ts).shad = s.shad := rfl
@[simp] theorem State.setInside_latch (s : State) (ts : List Task) : (s.setInside ts).latch = s.latch := rfl
@[simp] theorem State.setInside_mode (s : State) (ts : List Task) : (s.setInside ts).mode = s.mode := rfl
@[simp] theorem State.setInside_pay (s : State) (ts : List Task) : (s.setInside ts).pay = s.pay := rfl
@[simp] theorem State.setInside_mpay (s : State) (ts : List Task) : (s.setInside ts).mpay = s.mpay := rfl
@[simp] theorem State.setInside_tx (s : State) (ts : List Task) : (s.setInside ts).tx = s.tx := rfl
@[simp] theorem State.setInside_ctl (s : State) (ts : List Task) : (s.setInside ts).ctl = s.ctl := rfl
@[simp] theorem State.setInside_pending (s : State) (ts : List Task) : (s.setInside ts).pending = s.pending := rfl
@[simp] theorem State.setInside_truncMode (s : State) (ts : List Task) : (s.setInside ts).truncMode = s.truncMode := rfl
@[simp] theorem State.setInside_observer (s : State) (ts : List Task) : (s.setInside ts).observer = s.observer := rfl
@[simp] theorem State.setInside_sensor (s : State) (ts : List Task) : (s.setInside ts).sensor = s.sensor := rfl
@[simp] theorem State.setInside_draws (s : State) (ts : List Task) : (s.setInside ts).draws = s.draws := rfl
@[simp] theorem State.setInside_input (s : State) (ts : List Task) : (s.setInside ts).input = s.input := rfl
@[simp] theorem State.setInside_inside (s : State) (ts : List Task) : (s.setInside ts).inside = ts := rfl
@[simp] theorem State.setInside_turns (s : State) (ts : List Task) : (s.setInside ts).turns = s.turns := rfl

@[simp] theorem State.setTurns_raw (s : State) (us : List Turn) : (s.setTurns us).raw = s.raw := rfl
@[simp] theorem State.setTurns_filt (s : State) (us : List Turn) : (s.setTurns us).filt = s.filt := rfl
@[simp] theorem State.setTurns_shad (s : State) (us : List Turn) : (s.setTurns us).shad = s.shad := rfl
@[simp] theorem State.setTurns_latch (s : State) (us : List Turn) : (s.setTurns us).latch = s.latch := rfl
@[simp] theorem State.setTurns_mode (s : State) (us : List Turn) : (s.setTurns us).mode = s.mode := rfl
@[simp] theorem State.setTurns_pay (s : State) (us : List Turn) : (s.setTurns us).pay = s.pay := rfl
@[simp] theorem State.setTurns_mpay (s : State) (us : List Turn) : (s.setTurns us).mpay = s.mpay := rfl
@[simp] theorem State.setTurns_tx (s : State) (us : List Turn) : (s.setTurns us).tx = s.tx := rfl
@[simp] theorem State.setTurns_ctl (s : State) (us : List Turn) : (s.setTurns us).ctl = s.ctl := rfl
@[simp] theorem State.setTurns_pending (s : State) (us : List Turn) : (s.setTurns us).pending = s.pending := rfl
@[simp] theorem State.setTurns_truncMode (s : State) (us : List Turn) : (s.setTurns us).truncMode = s.truncMode := rfl
@[simp] theorem State.setTurns_observer (s : State) (us : List Turn) : (s.setTurns us).observer = s.observer := rfl
@[simp] theorem State.setTurns_sensor (s : State) (us : List Turn) : (s.setTurns us).sensor = s.sensor := rfl
@[simp] theorem State.setTurns_draws (s : State) (us : List Turn) : (s.setTurns us).draws = s.draws := rfl
@[simp] theorem State.setTurns_input (s : State) (us : List Turn) : (s.setTurns us).input = s.input := rfl
@[simp] theorem State.setTurns_inside (s : State) (us : List Turn) : (s.setTurns us).inside = s.inside := rfl
@[simp] theorem State.setTurns_turns (s : State) (us : List Turn) : (s.setTurns us).turns = us := rfl

@[simp] theorem State.pushInside_raw (s : State) (ts : List Task) : (s.pushInside ts).raw = s.raw := rfl
@[simp] theorem State.pushInside_filt (s : State) (ts : List Task) : (s.pushInside ts).filt = s.filt := rfl
@[simp] theorem State.pushInside_shad (s : State) (ts : List Task) : (s.pushInside ts).shad = s.shad := rfl
@[simp] theorem State.pushInside_latch (s : State) (ts : List Task) : (s.pushInside ts).latch = s.latch := rfl
@[simp] theorem State.pushInside_mode (s : State) (ts : List Task) : (s.pushInside ts).mode = s.mode := rfl
@[simp] theorem State.pushInside_pay (s : State) (ts : List Task) : (s.pushInside ts).pay = s.pay := rfl
@[simp] theorem State.pushInside_mpay (s : State) (ts : List Task) : (s.pushInside ts).mpay = s.mpay := rfl
@[simp] theorem State.pushInside_tx (s : State) (ts : List Task) : (s.pushInside ts).tx = s.tx := rfl
@[simp] theorem State.pushInside_ctl (s : State) (ts : List Task) : (s.pushInside ts).ctl = s.ctl := rfl
@[simp] theorem State.pushInside_pending (s : State) (ts : List Task) : (s.pushInside ts).pending = s.pending := rfl
@[simp] theorem State.pushInside_truncMode (s : State) (ts : List Task) : (s.pushInside ts).truncMode = s.truncMode := rfl
@[simp] theorem State.pushInside_observer (s : State) (ts : List Task) : (s.pushInside ts).observer = s.observer := rfl
@[simp] theorem State.pushInside_sensor (s : State) (ts : List Task) : (s.pushInside ts).sensor = s.sensor := rfl
@[simp] theorem State.pushInside_draws (s : State) (ts : List Task) : (s.pushInside ts).draws = s.draws := rfl
@[simp] theorem State.pushInside_input (s : State) (ts : List Task) : (s.pushInside ts).input = s.input := rfl
@[simp] theorem State.pushInside_inside (s : State) (ts : List Task) : (s.pushInside ts).inside = ts ++ s.inside := rfl
@[simp] theorem State.pushInside_turns (s : State) (ts : List Task) : (s.pushInside ts).turns = s.turns := rfl

@[simp] theorem State.nextTurn_raw (s : State) : (s.nextTurn).raw = s.raw := rfl
@[simp] theorem State.nextTurn_filt (s : State) : (s.nextTurn).filt = s.filt := rfl
@[simp] theorem State.nextTurn_shad (s : State) : (s.nextTurn).shad = s.shad := rfl
@[simp] theorem State.nextTurn_latch (s : State) : (s.nextTurn).latch = s.latch := rfl
@[simp] theorem State.nextTurn_mode (s : State) : (s.nextTurn).mode = s.mode := rfl
@[simp] theorem State.nextTurn_pay (s : State) : (s.nextTurn).pay = s.pay := rfl
@[simp] theorem State.nextTurn_mpay (s : State) : (s.nextTurn).mpay = s.mpay := rfl
@[simp] theorem State.nextTurn_tx (s : State) : (s.nextTurn).tx = s.tx := rfl
@[simp] theorem State.nextTurn_ctl (s : State) : (s.nextTurn).ctl = s.ctl := rfl
@[simp] theorem State.nextTurn_pending (s : State) : (s.nextTurn).pending = s.pending := rfl
@[simp] theorem State.nextTurn_truncMode (s : State) : (s.nextTurn).truncMode = s.truncMode := rfl
@[simp] theorem State.nextTurn_observer (s : State) : (s.nextTurn).observer = s.observer := rfl
@[simp] theorem State.nextTurn_sensor (s : State) : (s.nextTurn).sensor = s.sensor := rfl
@[simp] theorem State.nextTurn_draws (s : State) : (s.nextTurn).draws = s.draws := rfl
@[simp] theorem State.nextTurn_input (s : State) : (s.nextTurn).input = s.input := rfl
@[simp] theorem State.nextTurn_inside (s : State) : (s.nextTurn).inside = s.inside := rfl
@[simp] theorem State.nextTurn_turns (s : State) : (s.nextTurn).turns = s.turns.tail := rfl

end Sys2Proof.Machine
end

