-- ==== Sys2Proof/Laws/Ops.lean ====
section
/-! SUPPORT. For each shared operation, once, all it can do. -/

namespace Sys2Proof.Machine

/-- Two states that differ at most in the collaborators' fields: the observer, the sensor's answers, the draw counter. -/
structure SameBlock (s t : State) : Prop where
  raw : t.raw = s.raw
  filt : t.filt = s.filt
  shad : t.shad = s.shad
  latch : t.latch = s.latch
  mode : t.mode = s.mode
  pay : t.pay = s.pay
  mpay : t.mpay = s.mpay
  tx : t.tx = s.tx
  ctl : t.ctl = s.ctl
  pending : t.pending = s.pending
  truncMode : t.truncMode = s.truncMode
  input : t.input = s.input
  inside : t.inside = s.inside
  turns : t.turns = s.turns

theorem SameBlock.refl (s : State) : SameBlock s s := by constructor <;> rfl

/-- Asking the observer changes nothing of the block, and an absent one never skips (R115, R116). -/
theorem State.observe_spec (s : State) (f : EventFields) :
    SameBlock s (s.observe f).2 ∧ (s.observe f).2.sensor = s.sensor ∧
      (s.observer = .absent → s.observe f = (false, s)) := by
  unfold State.observe
  split <;> refine ⟨by constructor <;> rfl, rfl, fun h => ?_⟩ <;> simp_all

theorem State.observe_absent {s : State} (h : s.observer = .absent) (f : EventFields) : s.observe f = (false, s) := by
  simp [State.observe, h]

theorem State.observe_function {s : State} {rows : List (EventFields × Bool)} {otherwise : Bool}
    (h : s.observer = .function rows otherwise) (f : EventFields) : s.observe f = (answerOf rows otherwise f, s) := by
  simp [State.observe, h]

theorem State.observe_answer {s : State} {b : Bool} {rest : List Bool} (h : s.observer = .answers (b :: rest))
    (f : EventFields) : s.observe f = (b, s.setObserver (.answers rest)) := by
  simp [State.observe, h]

/-- Past the listed answers the observer's answer is a free value (entry 4). -/
theorem State.observe_free {s : State} (h : s.observer = .answers []) (f : EventFields) :
    s.observe f = (Config.observerAnswer s.draws f, s.nextDraw) := by
  simp [State.observe, h]

theorem State.burstRead_listed {s : State} {v : Sample} {rest : List Sample} (h : s.sensor = v :: rest) :
    s.burstRead = (v, s.setSensor rest) := by
  simp [State.burstRead, h]

/-- Past the listed answers the oracle's answer is a free value (entry 5). -/
theorem State.burstRead_free {s : State} (h : s.sensor = []) :
    s.burstRead = (Config.sensorAnswer s.draws, s.nextDraw) := by
  simp [State.burstRead, h]

/-- GATE's body: the observer's state moves on, and the payload is emitted unchanged or dropped (R115). -/
theorem State.offer_spec (s : State) (kind : EventKind) (payload : List Byte) (f : EventFields) :
    s.offer kind payload f =
      { (s.observe f).2 with tx := if (s.observe f).1 then s.tx else s.tx ++ [(kind, payload)] } := by
  have h := (s.observe_spec f).1.tx
  unfold State.offer State.emit
  cases hb : (s.observe f).1 <;> simp [h]
  rw [← h]

/-- GATE's body sends the payload once or not at all, surely once with no observer, and changes nothing of the block (R115). -/
theorem State.offer_frame (s : State) (kind : EventKind) (payload : List Byte) (f : EventFields) :
    ((s.offer kind payload f).tx = s.tx ∨ (s.offer kind payload f).tx = s.tx ++ [(kind, payload)]) ∧
      (s.observer = .absent → (s.offer kind payload f).tx = s.tx ++ [(kind, payload)]) ∧
      { s.offer kind payload f with tx := s.tx, observer := s.observer, draws := s.draws } = s := by
  obtain ⟨hb, hs, ha⟩ := s.observe_spec f
  rw [State.offer_spec]
  refine ⟨?_, fun h => ?_, ?_⟩
  · split <;> simp
  · rw [ha h]; simp
  · obtain ⟨h1, h2, h3, h4, h5, h6, h7, h8, h9, h10, h11, h12, h13, h14⟩ := hb
    cases s
    simp only at h1 h2 h3 h4 h5 h6 h7 h8 h9 h10 h11 h12 h13 h14 hs
    simp only [h1, h2, h3, h4, h5, h6, h7, h9, h10, h11, h12, h13, h14, hs]

/-- A burst read changes nothing of the block (R85). -/
theorem State.burstRead_spec (s : State) :
    SameBlock s s.burstRead.2 ∧ s.burstRead.2.observer = s.observer := by
  unfold State.burstRead
  split <;> exact ⟨by constructor <;> rfl, rfl⟩

@[simp] theorem State.testAndClear_fst (s : State) : s.testAndClear.1 = s.latch := rfl

/-- The test and clear leaves LATCH false and everything else alone (R43, R121). -/
theorem State.testAndClear_snd (s : State) : s.testAndClear.2 = s.setLatch false := by
  unfold State.testAndClear
  cases h : s.latch
  · cases s; simp_all [State.setLatch]
  · rfl

/-- With the Latch false, POLL changes nothing (R120 case a). -/
theorem State.pollPass_idle {s : State} (h : s.latch = false) : s.pollPass = s := by
  simp [State.pollPass, State.testAndClear, h]

/-- With the Latch true, POLL clears it and performs one sequence (R120 case b). -/
theorem State.pollPass_busy {s : State} (h : s.latch = true) : s.pollPass = (s.setLatch false).pollSequence := by
  simp [State.pollPass, State.testAndClear, h]

end Sys2Proof.Machine
end

