-- ==== Sys2Proof/Laws/Exec.lean ====
section
/-! SUPPORT. For each operation that can end in more than one way, all the ways it can end; and runs of operations. -/

namespace Sys2Proof.Machine

/-! ### The meaning each operation's arm calls -/

theorem exec_reset (s : State) : exec .reset s = .next s.resetBlock := rfl
theorem exec_irq (s : State) : exec .irq s = .next (bif s.ie then s.takeInterrupt else s) := rfl
theorem exec_setmode (o : Origin) (id m : Byte) (s : State) : exec (.setmode o id m) s = requestMode o id m s := rfl
theorem exec_poll (s : State) : exec .poll s = .next s.pollPass := rfl
theorem exec_lclr (s : State) : exec .lclr s = .next ((s.setLatch false).setPending s.latch) := by
  show Host.Outcome.next (s.testAndClear.2.setPending s.testAndClear.1) = _
  rw [State.testAndClear_snd, State.testAndClear_fst]
theorem exec_rdsens (s : State) : exec .rdsens s = .next s.readSensor := rfl
theorem exec_shadow (s : State) : exec .shadow s = .next s.shadowCopy := rfl
theorem exec_ema (s : State) : exec .ema s = .next s.emaUpdate := rfl
theorem exec_fclr (s : State) : exec .fclr s = .next s.clearFilter := rfl
theorem exec_fstep (s : State) : exec .fstep s = .next s.filterStep := rfl
theorem exec_encmd (s : State) : exec .encmd s = .next s.buildMotion := rfl
theorem exec_encmm (new : Mode) (s : State) : exec (.encmm new) s = .next (s.buildMode new) := rfl
theorem exec_gate (kind : EventKind) (payload : List Byte) (s : State) :
    exec (.gate kind payload) s = execGate kind payload s := rfl
theorem exec_put16le (i : Nat) (v : S16) (s : State) : exec (.put16le i v) s = execPut16le i v s := rfl
theorem exec_enable (s : State) : exec .enable s = .next s.enablePath := rfl
theorem exec_disable (s : State) : exec .disable s = .next s.disablePath := rfl
theorem exec_evtMotionData (v : Sample) (s : State) :
    exec (.evtMotionData v) s = .next (s.emit .motionData (motionPayload v)) := rfl
theorem exec_evtMotionMode (m : Mode) (s : State) :
    exec (.evtMotionMode m) s = .next (s.emit .modeChange (modePayload m)) := rfl
theorem exec_cmdSetMode (m : Mode) (s : State) : exec (.cmdSetMode m) s = .next (s.changeMode .command m) := by
  show requestMode .command Config.sensorIndex (modeByte m) s = _
  simp [requestMode]

/-- GATE of a motion-data payload (R115). -/
theorem exec_gate_motion (v : Sample) (s : State) :
    exec (.gate .motionData (motionPayload v)) s = .next (s.offer .motionData (motionPayload v) (motionFields v)) := by
  rw [exec_gate, execGate, fieldsOf_motionPayload]

/-- GATE of a mode-change payload (R115). -/
theorem exec_gate_mode (m : Mode) (s : State) :
    exec (.gate .modeChange (modePayload m)) s = .next (s.offer .modeChange (modePayload m) (modeFields m)) := by
  rw [exec_gate, execGate, fieldsOf_modePayload]

/-! ### The operations that can end in more than one way -/

/-- SETMODE either changes the mode its operands name or refuses them (R72, R78). -/
theorem requestMode_cases (origin : Origin) (id m : Byte) (s : State) :
    (∃ new, id = Config.sensorIndex ∧ m = modeByte new ∧ requestMode origin id m s = .next (s.changeMode origin new)) ∨
      (modeRequest id m = none ∧ requestMode origin id m s = .refused .undefinedModeRequest) := by
  unfold requestMode
  cases h : modeRequest id m with
  | none => exact .inr ⟨rfl, rfl⟩
  | some new => exact .inl ⟨new, (modeRequest_eq_some.1 h).1, (modeRequest_eq_some.1 h).2, rfl⟩

/-- A defined request completes (R72). -/
@[simp] theorem requestMode_defined (origin : Origin) (new : Mode) (s : State) :
    requestMode origin Config.sensorIndex (modeByte new) s = .next (s.changeMode origin new) := by
  simp [requestMode]

/-- A request for the mode in force changes nothing (R76). -/
@[simp] theorem State.changeMode_same (s : State) (origin : Origin) : s.changeMode origin s.mode = s := by
  simp [State.changeMode]

/-- A command changes the mode and announces nothing (R77). -/
theorem State.changeMode_command {s : State} {new : Mode} (h : new ≠ s.mode) :
    s.changeMode .command new = s.transition new := by
  simp [State.changeMode, h]

/-- The API changes the mode and announces it (R77). -/
theorem State.changeMode_api {s : State} {new : Mode} (h : new ≠ s.mode) :
    s.changeMode .api new = (s.transition new).announce new := by
  simp [State.changeMode, h]

/-- GATE offers a payload of its kind and refuses any other bytes (R115, U16). -/
theorem execGate_cases (kind : EventKind) (payload : List Byte) (s : State) :
    (∃ f, fieldsOf kind payload = some f ∧ execGate kind payload s = .next (s.offer kind payload f)) ∨
      (fieldsOf kind payload = none ∧ execGate kind payload s = .refused .payloadOutsideFormat) := by
  unfold execGate
  cases h : fieldsOf kind payload with
  | none => exact .inr ⟨rfl, rfl⟩
  | some f => exact .inl ⟨f, rfl, rfl⟩

/-- PUT16LE writes two cells that exist, or faults (R30, R105). -/
theorem execPut16le_cases (i : Nat) (v : S16) (s : State) :
    (i + 1 < Config.mdLen ∧ execPut16le i v s = .next (s.setPay (s.pay.put16le i v))) ∨
      (Config.mdLen ≤ i + 1 ∧ execPut16le i v s = .fault (.noSuchPayloadCell i)) := by
  unfold execPut16le payloadCellsExist
  by_cases h : i + 1 < Config.mdLen
  · exact .inl ⟨h, by simp [h]⟩
  · exact .inr ⟨by omega, by simp [h]⟩

/-- A run of two parts is the second from where the first ends. -/
theorem runOps_append {xs ys : List Instr} {s t : State} (h : runOps xs s = .next t) :
    runOps (xs ++ ys) s = runOps ys t := by
  induction xs generalizing s with
  | nil => simp only [runOps, Host.Outcome.next.injEq] at h; subst h; rfl
  | cons i rest ih =>
    simp only [runOps, List.cons_append] at h ⊢
    split at h
    · exact ih h
    · cases h
    · cases h

@[simp] theorem runOps_nil (s : State) : runOps [] s = .next s := rfl

/-- A run that begins with an operation that completes. -/
theorem runOps_cons {i : Instr} {rest : List Instr} {s t : State} (h : exec i s = .next t) :
    runOps (i :: rest) s = runOps rest t := by
  simp [runOps, h]

/-- One operation is a run of its own. -/
theorem runOps_single {i : Instr} {s t : State} (h : exec i s = .next t) : runOps [i] s = .next t := by
  simp [runOps, h]

/-- The state after the first `n` of a row of equal operations that always complete. -/
theorem runOps_replicate {i : Instr} {f : State → State} (h : ∀ s, exec i s = .next (f s)) (n : Nat) (s : State) :
    runOps (List.replicate n i) s = .next (f^[n] s) := by
  induction n generalizing s with
  | zero => rfl
  | succ n ih => rw [List.replicate_succ, runOps_cons (h s), ih]; rfl

end Sys2Proof.Machine
end

