-- ==== Sys2Proof/Laws/Frames.lean ====
section
/-! SUPPORT. What the composite operations leave alone, and that they do not look at LATCH, MODE or `pending`. -/

namespace Sys2Proof.Machine

/-! ### Frames -/

/-- A burst read into RAW changes RAW and the collaborator's fields (R85). -/
theorem State.readSensor_frame (s : State) :
    { s.readSensor with raw := s.raw, sensor := s.sensor, draws := s.draws } = s := by
  unfold State.readSensor State.burstRead
  split <;> rfl

theorem State.readSensor_mode (s : State) : s.readSensor.mode = s.mode := by
  unfold State.readSensor State.burstRead; split <;> rfl
theorem State.readSensor_latch (s : State) : s.readSensor.latch = s.latch := by
  unfold State.readSensor State.burstRead; split <;> rfl
theorem State.readSensor_filt (s : State) : s.readSensor.filt = s.filt := by
  unfold State.readSensor State.burstRead; split <;> rfl
theorem State.readSensor_observer (s : State) : s.readSensor.observer = s.observer := by
  unfold State.readSensor State.burstRead; split <;> rfl

/-- Any function of the state that does not read TX, the observer or the draw counter is the same after an offer. -/
theorem State.offer_get {β : Type} (g : State → β) (s : State) (kind : EventKind) (payload : List Byte) (f : EventFields) :
    g { s.offer kind payload f with tx := s.tx, observer := s.observer, draws := s.draws } = g s :=
  congrArg g (State.offer_frame s kind payload f).2.2

theorem State.offer_mode (s : State) (kind : EventKind) (payload : List Byte) (f : EventFields) :
    (s.offer kind payload f).mode = s.mode := State.offer_get State.mode s kind payload f
theorem State.offer_latch (s : State) (kind : EventKind) (payload : List Byte) (f : EventFields) :
    (s.offer kind payload f).latch = s.latch := State.offer_get State.latch s kind payload f
theorem State.offer_filt (s : State) (kind : EventKind) (payload : List Byte) (f : EventFields) :
    (s.offer kind payload f).filt = s.filt := State.offer_get State.filt s kind payload f
theorem State.offer_pay (s : State) (kind : EventKind) (payload : List Byte) (f : EventFields) :
    (s.offer kind payload f).pay = s.pay := State.offer_get State.pay s kind payload f

/-- An observer that is registered stays registered, and an absent one stays absent (R25). -/
theorem State.observe_absent_iff (s : State) (f : EventFields) :
    (s.observe f).2.observer = .absent ↔ s.observer = .absent := by
  unfold State.observe
  split <;> simp_all

theorem State.offer_absent_iff (s : State) (kind : EventKind) (payload : List Byte) (f : EventFields) :
    (s.offer kind payload f).observer = .absent ↔ s.observer = .absent := by
  rw [State.offer_spec]; exact s.observe_absent_iff f

/-- Announcing a mode change touches MPAY, TX and the observer (R77, R109, R115). -/
theorem State.announce_frame (s : State) (new : Mode) :
    { s.announce new with mpay := s.mpay, tx := s.tx, observer := s.observer, draws := s.draws } = s := by
  have h := (State.offer_frame (s.buildMode new) .modeChange (modePayload new) (modeFields new)).2.2
  exact congrArg (fun u : State => u.setMpay s.mpay) h

theorem State.announce_get {β : Type} (g : State → β) (s : State) (new : Mode) :
    g { s.announce new with mpay := s.mpay, tx := s.tx, observer := s.observer, draws := s.draws } = g s :=
  congrArg g (s.announce_frame new)

/-! ### The Mode Controller -/

/-- SETMODE on defined operands does nothing, or the transition, or the transition and the event (R72, R76, R77). -/
theorem State.changeMode_cases (s : State) (origin : Origin) (new : Mode) :
    (new = s.mode ∧ s.changeMode origin new = s) ∨
      (new ≠ s.mode ∧ (s.changeMode origin new = s.transition new ∨
        s.changeMode origin new = (s.transition new).announce new)) := by
  unfold State.changeMode
  by_cases h : new = s.mode
  · simp [h]
  · right; refine ⟨h, ?_⟩; cases origin <;> simp [h]

theorem State.transition_mode (s : State) (new : Mode) : (s.transition new).mode = new := by cases new <;> rfl

/-- After SETMODE on defined operands the mode is the requested one (R72, R76). -/
theorem State.changeMode_mode (s : State) (origin : Origin) (new : Mode) : (s.changeMode origin new).mode = new := by
  rcases s.changeMode_cases origin new with ⟨he, h⟩ | ⟨-, h | h⟩
  · rw [h, he]
  · rw [h, s.transition_mode]
  · rw [h]
    exact (State.announce_get State.mode (s.transition new) new).trans (s.transition_mode new)

/-- SETMODE leaves LATCH alone, or enables a disabled block and forces LATCH (R73, R74). -/
theorem State.changeMode_latch (s : State) (origin : Origin) (new : Mode) :
    (s.changeMode origin new).latch = s.latch ∨
      (s.mode = .disabled ∧ new = .enabled ∧ (s.changeMode origin new).latch = true) := by
  rcases s.changeMode_cases origin new with ⟨-, h⟩ | ⟨hn, h | h⟩
  · exact .inl (by rw [h])
  all_goals
    have hl : (s.changeMode origin new).latch = (s.transition new).latch := by
      first
      | exact congrArg State.latch h
      | exact (congrArg State.latch h).trans (State.announce_get State.latch (s.transition new) new)
    cases new
    · exact .inl hl
    · exact .inr ⟨by cases hm : s.mode <;> simp_all, rfl, hl⟩

/-! ### LATCH, MODE and `pending` are not read inside a sequence (R88, R123) -/

theorem State.readSensor_setLatch (s : State) (b : Bool) : (s.setLatch b).readSensor = s.readSensor.setLatch b := by
  unfold State.readSensor State.burstRead
  rw [show (s.setLatch b).sensor = s.sensor from rfl]
  split <;> rfl
theorem State.readSensor_setMode (s : State) (m : Mode) : (s.setMode m).readSensor = s.readSensor.setMode m := by
  unfold State.readSensor State.burstRead
  rw [show (s.setMode m).sensor = s.sensor from rfl]
  split <;> rfl
theorem State.readSensor_setPending (s : State) (b : Bool) : (s.setPending b).readSensor = s.readSensor.setPending b := by
  unfold State.readSensor State.burstRead
  rw [show (s.setPending b).sensor = s.sensor from rfl]
  split <;> rfl

theorem State.observe_setLatch (s : State) (b : Bool) (f : EventFields) :
    (s.setLatch b).observe f = ((s.observe f).1, (s.observe f).2.setLatch b) := by
  unfold State.observe
  rw [show (s.setLatch b).observer = s.observer from rfl]
  split <;> rfl
theorem State.observe_setMode (s : State) (m : Mode) (f : EventFields) :
    (s.setMode m).observe f = ((s.observe f).1, (s.observe f).2.setMode m) := by
  unfold State.observe
  rw [show (s.setMode m).observer = s.observer from rfl]
  split <;> rfl
theorem State.observe_setPending (s : State) (b : Bool) (f : EventFields) :
    (s.setPending b).observe f = ((s.observe f).1, (s.observe f).2.setPending b) := by
  unfold State.observe
  rw [show (s.setPending b).observer = s.observer from rfl]
  split <;> rfl

theorem State.offer_setLatch (s : State) (b : Bool) (kind : EventKind) (payload : List Byte) (f : EventFields) :
    (s.setLatch b).offer kind payload f = (s.offer kind payload f).setLatch b := by
  rw [State.offer_spec, State.offer_spec, State.observe_setLatch]; rfl
theorem State.offer_setMode (s : State) (m : Mode) (kind : EventKind) (payload : List Byte) (f : EventFields) :
    (s.setMode m).offer kind payload f = (s.offer kind payload f).setMode m := by
  rw [State.offer_spec, State.offer_spec, State.observe_setMode]; rfl
theorem State.offer_setPending (s : State) (b : Bool) (kind : EventKind) (payload : List Byte) (f : EventFields) :
    (s.setPending b).offer kind payload f = (s.offer kind payload f).setPending b := by
  rw [State.offer_spec, State.offer_spec, State.observe_setPending]; rfl

theorem State.pollSequence_setMode (s : State) (m : Mode) : (s.setMode m).pollSequence = s.pollSequence.setMode m := by
  unfold State.pollSequence State.sendMotion
  rw [State.readSensor_setMode]
  exact State.offer_setMode s.readSensor.filterStep.buildMotion m _ _ _
theorem State.pollSequence_setPending (s : State) (b : Bool) :
    (s.setPending b).pollSequence = s.pollSequence.setPending b := by
  unfold State.pollSequence State.sendMotion
  rw [State.readSensor_setPending]
  exact State.offer_setPending s.readSensor.filterStep.buildMotion b _ _ _

/-- POLL does not look at MODE (R123). -/
theorem State.pollPass_setMode (s : State) (m : Mode) : (s.setMode m).pollPass = s.pollPass.setMode m := by
  cases h : s.latch
  · rw [State.pollPass_idle (s := s.setMode m) h, State.pollPass_idle h]
  · rw [State.pollPass_busy (s := s.setMode m) h, State.pollPass_busy h]
    exact State.pollSequence_setMode (s.setLatch false) m

/-! ### The sequence -/

/-- What PAY holds after a sequence: the payload of the filtered values it leaves (R106, R120). -/
theorem State.pollSequence_pay (s : State) :
    s.pollSequence.pay = payOf (regValues s.readSensor.filterStep.filt) :=
  State.offer_pay s.readSensor.filterStep.buildMotion _ _ _

/-- What a sequence does to the other fields (R120). -/
theorem State.pollSequence_frame (s : State) :
    s.pollSequence.filt = s.readSensor.filterStep.filt ∧
    { s.pollSequence with raw := s.raw, filt := s.filt, shad := s.shad, pay := s.pay, tx := s.tx, sensor := s.sensor,
                          observer := s.observer, draws := s.draws } = s := by
  refine ⟨State.offer_filt s.readSensor.filterStep.buildMotion _ _ _, ?_⟩
  have h := (State.offer_frame s.readSensor.filterStep.buildMotion .motionData
    (motionPayload (regValues s.readSensor.filterStep.filt)) (motionFields (regValues s.readSensor.filterStep.filt))).2.2
  have h2 : { s.readSensor.filterStep.buildMotion with
      raw := s.raw, filt := s.filt, shad := s.shad, pay := s.pay, tx := s.tx, sensor := s.sensor,
      observer := s.observer, draws := s.draws } = s := by
    unfold State.readSensor State.burstRead
    split <;> rfl
  have h4 := congrArg (fun u : State => { u with
      raw := s.raw, filt := s.filt, shad := s.shad, pay := s.pay, tx := s.tx, sensor := s.sensor,
      observer := s.observer, draws := s.draws }) h
  exact h4.trans h2

/-! ### Logs -/

/-- The last level told by two logs in a row is the later one's, if it told any (R19, R20). -/
theorem lastEvent_append (pick : CtlEvent → Option Bool) (a b : List CtlEvent) :
    lastEvent pick (a ++ b) = (lastEvent pick b).or (lastEvent pick a) := by
  unfold lastEvent
  rw [List.foldl_append]
  generalize List.foldl _ none a = x
  induction b using List.reverseRecOn with
  | nil => simp
  | append_singleton b e ih => simp [List.foldl_append, ih, Option.or_assoc]

/-- What ENCMD builds has the layout of motion data (R51, R106). -/
theorem payloadFits_motionPayload (v : Sample) : payloadFits .motionData (motionPayload v) = true := rfl

/-- What ENCMM builds has the layout of a mode change (R56, R109). -/
theorem payloadFits_modePayload (m : Mode) : payloadFits .modeChange (modePayload m) = true := by cases m <;> rfl

end Sys2Proof.Machine
end

