-- ==== Sys2Proof/Laws/PerInstr.lean ====
section
/-! SUPPORT. Facts about each operation as syntax, one lemma for each constructor. -/

namespace Sys2Proof.Laws.PacketForm

/-- An operation's packet has the format of the operation's row and is at least as long as the row (R61, R62). -/
def Statement (i : Instr) : Prop :=
  (encode i).format = (rowOf i).format ∧ (rowOf i).nbytes ≤ (encode i).bytes.length

theorem reset : Statement .reset := ⟨rfl, by decide⟩
theorem irq : Statement .irq := ⟨rfl, by decide⟩
theorem setmode (origin : Origin) (sensorId mode : Byte) : Statement (.setmode origin sensorId mode) :=
  ⟨rfl, by simp [encode, rowOf]⟩
theorem poll : Statement .poll := ⟨rfl, by decide⟩
theorem lclr : Statement .lclr := ⟨rfl, by decide⟩
theorem rdsens : Statement .rdsens := ⟨rfl, by decide⟩
theorem shadow : Statement .shadow := ⟨rfl, by decide⟩
theorem ema : Statement .ema := ⟨rfl, by decide⟩
theorem fclr : Statement .fclr := ⟨rfl, by decide⟩
theorem fstep : Statement .fstep := ⟨rfl, by decide⟩
theorem encmd : Statement .encmd := ⟨rfl, by decide⟩
theorem encmm (new : Mode) : Statement (.encmm new) := ⟨rfl, by simp [encode, rowOf]⟩
theorem gate (kind : EventKind) (payload : List Byte) : Statement (.gate kind payload) :=
  ⟨rfl, by simp [encode, rowOf]⟩
theorem put16le (i : Nat) (v : S16) : Statement (.put16le i v) := ⟨rfl, by simp [encode, rowOf]⟩
theorem enable : Statement .enable := ⟨rfl, by decide⟩
theorem disable : Statement .disable := ⟨rfl, by decide⟩
theorem evtMotionData (samples : Sample) : Statement (.evtMotionData samples) :=
  ⟨rfl, Nat.le_refl 15⟩
theorem evtMotionMode (mode : Mode) : Statement (.evtMotionMode mode) := ⟨rfl, Nat.le_refl 2⟩
theorem cmdSetMode (mode : Mode) : Statement (.cmdSetMode mode) := ⟨rfl, Nat.le_refl 2⟩

end Sys2Proof.Laws.PacketForm
end

