-- ==== Sys2Proof/Laws/Sequence.lean ====
section
/-! SUPPORT. What a step can do, and what beginning an operation does. -/

namespace Sys2Proof.Machine

@[simp] theorem State.turn_setInside (s : State) (ts : List Task) : (s.setInside ts).turn = s.turn := rfl
@[simp] theorem State.turn_setInput (s : State) (ps : List Packet) : (s.setInput ps).turn = s.turn := rfl

theorem State.nextPacket_cons {s : State} {p : Packet} {rest : List Packet} (h : s.input = p :: rest) :
    s.nextPacket = some (p, s.setInput rest) := by
  simp [State.nextPacket, h]

theorem State.nextPacket_nil {s : State} (h : s.input = []) : s.nextPacket = none := by
  simp [State.nextPacket, h]

/-- An operation that is not opened is its meaning. -/
theorem perform_whole {i : Instr} {turn : Turn} (s : State) (h : turn ≠ .parts) : perform i turn s = exec i s := by
  cases turn
  · rfl
  · exact absurd rfl h
  · rfl

/-- Performing an operation is its meaning, or its beginning. -/
theorem perform_cases (i : Instr) (turn : Turn) (s : State) :
    perform i turn s = exec i s ∨
      ∃ t parts, turn = .parts ∧ begin i s = some (t, parts) ∧ perform i turn s = .next (t.pushInside parts) := by
  cases turn with
  | whole => exact .inl rfl
  | outside => exact .inl rfl
  | parts =>
    cases h : begin i s with
    | none => exact .inl (by simp [perform, h])
    | some r => exact .inr ⟨r.1, r.2, rfl, rfl, by simp [perform, h]⟩

/-- Between operations, a step takes the next request (entry 7). -/
theorem step_of_idle {s : State} (h : s.inside = []) : step s = takeRequest s := by
  simp [step, h]

/-- Inside an operation, on the polling context's turn, a step performs the next task (entry 18). -/
theorem step_of_task {s : State} {task : Task} {rest : List Task} (h : s.inside = task :: rest) (ht : s.turn ≠ .outside) :
    step s = performTask task s.turn (s.setInside rest).nextTurn := by
  cases hu : s.turn with
  | outside => exact absurd hu ht
  | whole => simp [step, h, hu]
  | parts => simp [step, h, hu]

/-- Inside an operation, on the outside's turn, a step lets an IRQ or a reset in (R38, R45). -/
theorem step_of_outside {s : State} {task : Task} {rest : List Task} (h : s.inside = task :: rest) (ht : s.turn = .outside) :
    step s = takeInside s := by
  simp [step, h, ht]

/-- A request between operations begins if the outside can cause it, and is refused if not (R62). -/
theorem takeRequest_ok {s : State} {p : Packet} {rest : List Packet} {i : Instr} (h : s.input = p :: rest)
    (hd : decode p = .ok i) : takeRequest s =
      bif isTopLevel i then perform i s.turn (s.setInput rest).nextTurn else .refused .onlyInsideAnOperation := by
  simp [takeRequest, State.nextPacket_cons h, hd]

theorem takeRequest_error {s : State} {p : Packet} {rest : List Packet} {e : DecodeError} (h : s.input = p :: rest)
    (hd : decode p = .error e) : takeRequest s = .refused (refusalOf e) := by
  simp [takeRequest, State.nextPacket_cons h, hd]

theorem takeRequest_nil {s : State} (h : s.input = []) : takeRequest s = .next s := by
  simp [takeRequest, State.nextPacket_nil h]

/-- On the outside's turn an IRQ or a reset takes effect; anything else leaves the state but for the turn (R45). -/
theorem takeInside_cases (s : State) :
    (∃ p rest i, s.input = p :: rest ∧ decode p = .ok i ∧ entersAnywhere i = true ∧
      takeInside s = exec i (s.setInput rest).nextTurn) ∨ takeInside s = .next s.nextTurn := by
  unfold takeInside
  cases h : s.input with
  | nil => exact .inr (by simp [State.nextPacket_nil h])
  | cons p rest =>
    rw [State.nextPacket_cons h]
    cases hd : decode p with
    | error e => exact .inr (by simp [hd])
    | ok i =>
      cases hi : entersAnywhere i
      · exact .inr (by simp [hd, hi])
      · exact .inl ⟨p, rest, i, rfl, hd, hi, by simp [hd, hi]⟩

/-! ### Orders -/

/-- An order that is kept: a last task alone, or a task before the order that follows. -/
theorem inOrder_cons {a : Task} {l : List Task} :
    inOrder (a :: l) = true ↔
      (l = [] ∧ a.canEnd = true) ∨ (∃ b r, l = b :: r ∧ a.before b = true ∧ inOrder l = true) := by
  cases l <;> simp [inOrder]

/-- Of an order that is kept, what is left after the first task is one too. -/
theorem inOrder_tail {t : Task} {rest : List Task} (h : inOrder (t :: rest) = true) : inOrder rest = true := by
  rcases inOrder_cons.1 h with ⟨rfl, -⟩ | ⟨_, _, -, -, h⟩
  · rfl
  · exact h

/-- After FSTEP only ENCMD comes (R120). -/
theorem before_fstep {b : Task} (h : (Task.op .fstep).before b = true) : b = .op .encmd := by
  unfold Task.before at h; split at h <;> simp_all

/-- After ENCMD only GATE of what it built comes (R120). -/
theorem before_encmd {b : Task} (h : (Task.op .encmd).before b = true) : b = .gateBuilt .motionData := by
  unfold Task.before at h; split at h <;> simp_all

/-- SETMODE begins without a change of state, with its parts in order (R72). -/
theorem beginMode_spec {origin : Origin} {request : Option Mode} {s t : State} {parts : List Task}
    (h : beginMode origin request s = some (t, parts)) :
    t = s ∧ inOrder parts = true ∧ ∃ new, request = some new ∧ new ≠ s.mode ∧
      parts = .op (transitionOp new) :: announceTasks origin new := by
  cases request with
  | none => cases h
  | some new =>
    by_cases hn : new = s.mode
    · simp [beginMode, hn] at h
    · simp only [beginMode, hn, if_false, Option.some.injEq, Prod.mk.injEq] at h
      obtain ⟨rfl, rfl⟩ := h
      exact ⟨rfl, by cases origin <;> cases new <;> rfl, new, rfl, hn, rfl⟩

/-- A top-level operation begins without a change of state, with its parts in order, and there is a part (R62). -/
theorem begin_topLevel {i : Instr} {s t : State} {parts : List Task} (hi : isTopLevel i = true)
    (h : begin i s = some (t, parts)) : t = s ∧ inOrder parts = true ∧ parts ≠ [] := by
  have mode : ∀ {o r}, beginMode o r s = some (t, parts) → t = s ∧ inOrder parts = true ∧ parts ≠ [] := by
    intro o r h
    obtain ⟨a, b, _, -, -, rfl⟩ := beginMode_spec h
    exact ⟨a, b, List.cons_ne_nil _ _⟩
  cases i with
  | poll => cases h; exact ⟨rfl, rfl, List.cons_ne_nil _ _⟩
  | setmode o a b => exact mode h
  | cmdSetMode m => exact mode (o := .command) (r := some m) h
  | reset => cases h
  | irq => cases h
  | _ => cases hi

/-- A micro-operation that begins leaves what is left around it, and its parts go on into that in order (R62). -/
theorem begin_micro {i : Instr} {s t : State} {parts rest : List Task} (ho : inOrder (.op i :: rest) = true)
    (h : begin i s = some (t, parts)) : t.inside = s.inside ∧ inOrder (parts ++ rest) = true := by
  rw [inOrder_cons] at ho
  cases i with
  | fstep =>
    cases h
    rcases ho with ⟨-, h⟩ | ⟨b, r, rfl, h, h'⟩
    · cases h
    · rw [before_fstep h] at h' ⊢; exact ⟨rfl, h'⟩
  | encmd =>
    cases h
    rcases ho with ⟨-, h⟩ | ⟨b, r, rfl, h, h'⟩
    · cases h
    · rw [before_encmd h] at h' ⊢; exact ⟨rfl, h'⟩
  | poll => rcases ho with ⟨-, h⟩ | ⟨_, _, -, h, -⟩ <;> cases h
  | setmode _ _ _ => rcases ho with ⟨-, h⟩ | ⟨_, _, -, h, -⟩ <;> cases h
  | cmdSetMode _ => rcases ho with ⟨-, h⟩ | ⟨_, _, -, h, -⟩ <;> cases h
  | gate _ _ => rcases ho with ⟨-, h⟩ | ⟨_, _, -, h, -⟩ <;> cases h
  | _ => cases h

/-- GATE that begins leaves what is left around it, and at most one Emit (R115). -/
theorem begin_gate {kind : EventKind} {payload : List Byte} {s t : State} {parts : List Task}
    (h : begin (.gate kind payload) s = some (t, parts)) :
    t.inside = s.inside ∧ inOrder parts = true ∧ ∃ f, fieldsOf kind payload = some f ∧ t = (s.observe f).2 ∧
      parts = bif (s.observe f).1 then [] else [.op (eventOf f)] := by
  cases hf : fieldsOf kind payload with
  | none => simp [begin, beginGate, hf] at h
  | some f =>
    simp only [begin, beginGate, hf, Option.some.injEq, Prod.mk.injEq] at h
    obtain ⟨rfl, rfl⟩ := h
    refine ⟨(State.observe_spec s f).1.inside, ?_, f, rfl, rfl, rfl⟩
    cases (s.observe f).1
    · cases f <;> rfl
    · rfl

/-! ### The end of an operation in progress -/

/-- With nothing in progress, nothing is left to finish. -/
theorem finish_over {s : State} (h : s.inside = []) (n : Nat) : finish n s = .next s := by
  cases n <;> simp [finish, h]

/-- Finishing an operation in progress is one step of it and then the rest. -/
theorem finish_step {s t : State} (h : s.inside ≠ []) (hs : step s = .next t) (n : Nat) : finish (n + 1) s = finish n t := by
  obtain ⟨task, rest, hi⟩ := List.exists_cons_of_ne_nil h
  simp [finish, hi, hs]

/-! ### The Emit that GATE leaves -/

/-- Asking for an event's fields and sending the event they belong to is sending the payload they were read from. -/
theorem encode_eventOf {kind : EventKind} {payload : List Byte} {f : EventFields} (h : fieldsOf kind payload = some f)
    (s : State) : exec (eventOf f) s = .next (s.emit kind payload) := by
  have hp : payloadFits kind payload = true := by rw [← fieldsOf_isSome, h]; rfl
  cases kind with
  | motionData =>
    obtain ⟨v, rfl⟩ := payloadFits_motion.1 hp
    rw [fieldsOf_motionPayload] at h; cases h; rfl
  | modeChange =>
    obtain ⟨m, rfl⟩ := payloadFits_mode.1 hp
    rw [fieldsOf_modePayload] at h; cases h; rfl

end Sys2Proof.Machine
end

