-- ==== Sys2Proof/Tests/Slice0.lean ====
section
/-! SUPPORT. Tests. Expected values are those of `spec/95_test_vectors.md` or of the encodings of `spec/30_encoding.md`; a
witness shows that the hypotheses of the obligation it is named after can be met together, clause by clause. -/

open Sys2Proof Sys2Proof.Machine

namespace Sys2Proof.Tests

/-- A small state: mode, latch, and the values of FILT, SHAD and RAW. -/
def st (m : Mode) (l : Bool) (filt shad raw : Sample) : State :=
  { State.reset with mode := m, latch := l, filt := wroteLanes filt, shad := wroteLanes shad, raw := wroteLanes raw }

def zeros : Sample := ⟨0, 0, 0, 0, 0, 0⟩

def smp (a b c d e f : Int) : Sample := ⟨pat16 a, pat16 b, pat16 c, pat16 d, pat16 e, pat16 f⟩

/-- The next state, if the operation completes. -/
def after (i : Instr) (s : State) : Option State :=
  match exec i s with
  | .next t => some t
  | .fault _ => none
  | .refused _ => none

/-- Whether the operation completes in a state as described. -/
def ends (i : Instr) (s : State) (p : State → Bool) : Bool :=
  match exec i s with
  | .next t => p t
  | .fault _ => false
  | .refused _ => false

/-- Why the operation is refused, if it is. -/
def refusal (i : Instr) (s : State) : Option Refusal :=
  match exec i s with
  | .next _ => none
  | .fault _ => none
  | .refused r => some r

def decoded (f : Format) (bytes : List Byte) : Option Instr :=
  match decode ⟨f, bytes⟩ with
  | .ok i => some i
  | .error _ => none

def idle : State := st .disabled false zeros zeros zeros
def busy : State := st .enabled true zeros zeros zeros
/-- The row of vector S1: Latch true, one raw lane 1000. -/
def listening : State := { busy with sensor := [smp 1000 0 0 0 0 0] }

/-! ### WellFormed refuses ill-formed terms -/

theorem test_wf_put16le_even_index : Instr.wf (.put16le 4 0) = false := by decide
theorem test_wf_put16le_low_index : Instr.wf (.put16le 1 0) = false := by decide
theorem test_wf_put16le_high_index : Instr.wf (.put16le 15 0) = false := by decide
theorem test_wf_gate_motion_header : Instr.wf (.gate .motionData (0x01 :: List.replicate 14 0)) = false := by decide
theorem test_wf_gate_motion_length :
    Instr.wf (.gate .motionData [0x00, 0x03, 0x0C, 0, 0, 0, 0, 0, 0, 0, 0, 0, 0, 0]) = false := by decide
theorem test_wf_gate_mode_byte : Instr.wf (.gate .modeChange [0x00, 0x02]) = false := by decide
theorem test_wf_gate_mode_sensor : Instr.wf (.gate .modeChange [0x01, 0x01]) = false := by decide
theorem test_wf_gate_kind : Instr.wf (.gate .motionData [0x00, 0x01]) = false := by decide

/-! ### Decoding: the words of the tables of R62, R51, R56 and R57 -/

theorem test_decode_reset : decoded .op [0b0000] = some .reset := by decide
theorem test_decode_irq : decoded .op [0b0001] = some .irq := by decide
theorem test_decode_setmode_api : decoded .op [0b0010, 0, 0x00, 0x01] = some (.setmode .api 0x00 0x01) := by decide
theorem test_decode_setmode_command : decoded .op [0b0010, 1, 0x07, 0x02] = some (.setmode .command 0x07 0x02) := by decide
theorem test_decode_poll : decoded .op [0b0011] = some .poll := by decide
theorem test_decode_lclr : decoded .op [0b0100] = some .lclr := by decide
theorem test_decode_rdsens : decoded .op [0b0101] = some .rdsens := by decide
theorem test_decode_shadow : decoded .op [0b0110] = some .shadow := by decide
theorem test_decode_ema : decoded .op [0b0111] = some .ema := by decide
theorem test_decode_fclr : decoded .op [0b1000] = some .fclr := by decide
theorem test_decode_fstep : decoded .op [0b1001] = some .fstep := by decide
theorem test_decode_encmd : decoded .op [0b1010] = some .encmd := by decide
theorem test_decode_encmm : decoded .op [0b1011, 0x01] = some (.encmm .enabled) := by decide
theorem test_decode_gate_mode : decoded .op [0b1100, 1, 0x01] = some (.gate .modeChange [0x00, 0x01]) := by decide
theorem test_decode_gate_motion : decoded .op [0b1100, 0, 0xFA, 0, 0, 0, 0, 0, 0, 0, 0, 0, 0, 0] =
    some (.gate .motionData [0x00, 0x03, 0x0C, 0xFA, 0, 0, 0, 0, 0, 0, 0, 0, 0, 0, 0]) := by decide
theorem test_decode_put16le : decoded .op [0b1101, 5, 0xD4, 0xFE] = some (.put16le 13 (pat16 (-300))) := by decide
theorem test_decode_enable : decoded .op [0b1110] = some .enable := by decide
theorem test_decode_disable : decoded .op [0b1111] = some .disable := by decide
/-- Vector S3, read back through format MD. -/
theorem test_decode_motion_event :
    decoded .md [0x00, 0x03, 0x0C, 0x01, 0x00, 0xFF, 0xFF, 0x2C, 0x01, 0xD4, 0xFE, 0x00, 0x00, 0xFF, 0x7F] =
      some (.evtMotionData (smp 1 (-1) 300 (-300) 0 32767)) := by decide
theorem test_decode_mode_event : decoded .mm [0b00000000, 0b00000001] = some (.evtMotionMode .enabled) := by decide
theorem test_decode_command : decoded .mc [0b00000000, 0b00000000] = some (.cmdSetMode .disabled) := by decide
theorem test_decode_refuses :
    decoded .op [0x10] = none ∧ decoded .op [] = none ∧ decoded .op [0b0011, 0] = none ∧ decoded .op [0b1101, 6, 0, 0] = none ∧
      decoded .mm [0x00, 0x02] = none ∧ decoded .mc [0x00] = none := by decide

/-! ### One step of each operation -/

/-- V-CTRL, row RESET. -/
theorem test_reset : ends .reset { busy with tx := [(.modeChange, [0x00, 0x01])] } (fun t =>
    decide (t.mode = .disabled) && decide (t.latch = false) && decide (allWritten t.filt = false) && decide (t.tx = [])) = true := by
  decide
/-- V-CTRL, rows IRQ. -/
theorem test_irq_enabled : (after .irq { busy with latch := false }).map (·.latch) = some true := by decide
theorem test_irq_disabled : (after .irq idle).map (·.latch) = some false := by decide
/-- V-CTRL, rows LCLR. -/
theorem test_lclr_true : (after .lclr busy).map (fun t => (t.latch, t.pending)) = some (false, true) := by decide
theorem test_lclr_false : (after .lclr { idle with pending := true }).map (fun t => (t.latch, t.pending)) =
    some (false, false) := by decide
/-- V-CTRL, row SETMODE(Api, 0, 1) from Disabled, false, 100. -/
theorem test_setmode_api :
    ends (.setmode .api 0 1) { idle with filt := wroteLanes (smp 100 100 100 100 100 100) } (fun t =>
      decide (t.mode = .enabled) && decide (t.latch = true) && decide (regValues t.filt = zeros) &&
        decide (t.ctl = [.irqPath true, .sensorSleep false]) && decide (t.tx = [(.modeChange, [0x00, 0x01])])) = true := by decide
/-- V-CTRL, row SETMODE(Command, 0, 2). -/
theorem test_setmode_refused : refusal (.setmode .command 0 2) busy = some .undefinedModeRequest := by decide
/-- V-CTRL, rows SETMODE(Command, 0, 0) and SETMODE(Command, 0, 1), as packets. -/
theorem test_command_disable : ends (.cmdSetMode .disabled) busy (fun t => decide (t.mode = .disabled) &&
    decide (t.latch = true) && decide (t.ctl = [.sensorSleep true, .irqPath false]) && decide (t.tx = [])) = true := by decide
theorem test_command_enable : ends (.cmdSetMode .enabled) idle (fun t => decide (t.mode = .enabled) &&
    decide (t.latch = true) && decide (t.ctl = [.irqPath true, .sensorSleep false]) && decide (t.tx = [])) = true := by decide
/-- Vector S1. -/
theorem test_poll : ends .poll listening (fun t => decide (t.latch = false) &&
    decide (regValues t.raw = smp 1000 0 0 0 0 0) && decide (regValues t.shad = zeros) &&
    decide (regValues t.filt = smp 250 0 0 0 0 0) &&
    decide (t.tx = [(.motionData, [0x00, 0x03, 0x0C, 0xFA, 0, 0, 0, 0, 0, 0, 0, 0, 0, 0, 0])])) = true := by decide
/-- Vector S5: a skip drops the payload, and FILT moves all the same. -/
theorem test_poll_vetoed : (after .poll { listening with observer := .function [] true }).map
    (fun t => (t.tx, regValues t.filt)) = some ([], smp 250 0 0 0 0 0) := by decide
/-- P1, line 5: the burst read writes RAW. -/
theorem test_rdsens : (after .rdsens { idle with sensor := [smp 1000 (-1000) 3 (-3) 32767 (-32768)] }).map
    (fun t => (regValues t.raw, t.sensor)) = some (smp 1000 (-1000) 3 (-3) 32767 (-32768), []) := by decide
/-- V-SHADOW. -/
theorem test_shadow : (after .shadow (st .enabled false (smp 250 (-1) 0 7 8 9) zeros zeros)).map
    (fun t => (regValues t.shad, regValues t.filt)) = some (smp 250 (-1) 0 7 8 9, smp 250 (-1) 0 7 8 9) := by decide
/-- V-EMA, rows (0,-1), (-5,6), (32767,-32768), (-32768,32767), (-10,-7), (7,-2); toward zero. -/
theorem test_ema_toward_zero :
    (after .ema (st .enabled false zeros (smp 0 (-5) 32767 (-32768) (-10) 7) (smp (-1) 6 (-32768) 32767 (-7) (-2)))).map
      (fun t => regValues t.filt) = some (smp 0 (-2) 16383 (-16384) (-9) 4) := by decide
/-- The same rows of V-EMA, toward negative infinity. -/
theorem test_ema_toward_negative :
    (after .ema { st .enabled false zeros (smp 0 (-5) 32767 (-32768) (-10) 7) (smp (-1) 6 (-32768) 32767 (-7) (-2)) with
      truncMode := .towardNegInf }).map (fun t => regValues t.filt) = some (smp (-1) (-3) 16383 (-16385) (-10) 4) := by decide
/-- V-FCLR. -/
theorem test_fclr : (after .fclr (st .enabled false (smp 100 100 100 (-7) 8 9) (smp 1 2 3 4 5 6) zeros)).map
    (fun t => (regValues t.filt, regValues t.shad)) = some (zeros, smp 1 2 3 4 5 6) := by decide
/-- V-FSTEP, fourth row of the pair: toward negative infinity. -/
theorem test_fstep : (after .fstep { st .enabled false (smp 250 (-250) 0 (-1) 8191 (-8192)) zeros
      (smp 1000 (-1000) 3 (-3) 32767 (-32768)) with truncMode := .towardNegInf }).map
    (fun t => (regValues t.shad, regValues t.filt)) =
      some (smp 250 (-250) 0 (-1) 8191 (-8192), smp 437 (-438) 0 (-2) 14335 (-14336)) := by decide
/-- V-ENCMD, fourth row. -/
theorem test_encmd : (after .encmd (st .enabled false (smp (-32768) 32767 (-1) 1 256 (-256)) zeros zeros)).map (·.pay.bytes) =
    some [0x00, 0x03, 0x0C, 0x00, 0x80, 0xFF, 0x7F, 0xFF, 0xFF, 0x01, 0x00, 0x00, 0x01, 0x00, 0xFF] := by decide
/-- V-ENCMM. -/
theorem test_encmm_enabled : (after (.encmm .enabled) idle).map (·.mpay.bytes) = some [0x00, 0x01] := by decide
theorem test_encmm_disabled : (after (.encmm .disabled) busy).map (·.mpay.bytes) = some [0x00, 0x00] := by decide
/-- V-GATE, "skip only MotionData". -/
theorem test_gate_motion :
    (after (.gate .motionData (motionPayload (smp 250 0 0 0 0 0))) { idle with
      observer := .function [(.motionData 0x00 0x03 0x0C (smp 250 0 0 0 0 0), true)] false }).map (·.tx) = some [] := by decide
theorem test_gate_mode : (after (.gate .modeChange [0x00, 0x01]) { idle with
      observer := .function [(.motionData 0x00 0x03 0x0C (smp 250 0 0 0 0 0), true)] false }).map (·.tx) =
    some [(.modeChange, [0x00, 0x01])] := by decide
/-- V-PUT16LE, the rows 4660 and -21555. -/
theorem test_put16le : (after (.put16le 3 (pat16 4660)) idle).map (·.pay) = some [(3, 0x34), (4, 0x12)] := by decide
theorem test_put16le_over : (after (.put16le 3 (pat16 (-21555))) { idle with pay := [(3, 0x34), (4, 0x12), (9, 0x07)] }).map
    (·.pay) = some [(3, 0xCD), (4, 0xAB), (9, 0x07)] := by decide
/-- Vector S2 and V-CTRL: ENABLE and DISABLE as they stand. -/
theorem test_enable : (after .enable (st .disabled false (smp 100 100 100 100 100 100) zeros zeros)).map
    (fun t => (t.mode, t.latch, regValues t.filt, t.ctl)) =
      some (.enabled, true, zeros, [.irqPath true, .sensorSleep false]) := by decide
theorem test_disable : (after .disable (st .enabled true (smp 250 250 250 250 250 250) zeros zeros)).map
    (fun t => (t.mode, t.latch, regValues t.filt, t.ctl)) =
      some (.disabled, true, smp 250 250 250 250 250 250, [.sensorSleep true, .irqPath false]) := by decide
/-- R8: what is emitted is the packet's bytes. -/
theorem test_motion_event : (after (.evtMotionData (smp 437 (-437) 0 0 14335 (-14336))) idle).map (·.tx) =
    some [(.motionData, [0x00, 0x03, 0x0C, 0xB5, 0x01, 0x4B, 0xFE, 0, 0, 0, 0, 0xFF, 0x37, 0x00, 0xC8])] := by decide
theorem test_mode_event : (after (.evtMotionMode .disabled) idle).map (·.tx) = some [(.modeChange, [0x00, 0x00])] := by decide
/-- The state one step later, if there is one. -/
def stepped (s : State) : Option State :=
  match step s with
  | .next t => some t
  | .fault _ => none
  | .refused _ => none

/-- The refusal of one step, if it refuses. -/
def stepRefusal (s : State) : Option Refusal :=
  match step s with
  | .next _ => none
  | .fault _ => none
  | .refused r => some r

/-- `listening`, asked for what is listed, with the given operation in progress and the given turns. -/
def amid (asked : List Packet) (inside : List Task) (turns : List Turn) : State :=
  { listening with input := asked, inside := inside, turns := turns }

def opPacket (selector : Byte) : Packet := ⟨.op, [selector]⟩

/-- A step of the machine on a word of the table: the MC bytes `00 01` (P2, line 1). -/
theorem test_step_command : (stepped (State.reset.withFetchWord 16 0x0001)).map (fun t => (t.mode, t.latch, t.input)) =
    some (.enabled, true, []) := by decide
/-- A micro-operation's word is performed inside an operation (R62), selector 1000: V-FCLR. -/
theorem test_step_micro : (stepped ((st .enabled false (smp 100 100 100 (-7) 8 9) zeros zeros).withFetchWord 8 0b1000)).map
    (fun t => (regValues t.filt, t.inside)) = some (zeros, []) := by decide
/-- The same selector asked for from outside is refused (R62). -/
theorem test_step_micro_refused : stepRefusal (amid [opPacket 0b1000] [] []) = some .onlyInsideAnOperation := by decide
/-- P4: an IRQ after RDSENS, inside POLL, sets LATCH and leaves the rest of the POLL as it is (R42). -/
theorem test_step_irq_inside : (stepped { amid [opPacket 0b0001] [.op .fstep, .op .encmd, .gateBuilt .motionData] [.outside]
      with latch := false }).map (fun t => (t.latch, t.inside, t.input)) =
    some (true, [.op .fstep, .op .encmd, .gateBuilt .motionData], []) := by decide

/-! ### Witnesses: the hypotheses of each obligation can be met -/

/-- Clause by clause: POLL whole and begun, IRQ without parts, bytes that are no packet, nothing asked for; inside, ENABLE, FSTEP
begun, SHADOW without parts, the rest of POLL, and GATE. -/
theorem witness_StepPerformsRequestedOperation :
    ((State.reset.withFetchWord 8 0x3).inside = [] ∧ (State.reset.withFetchWord 8 0x3).input = opPacket 0x3 :: [] ∧
      decode (opPacket 0x3) = .ok .poll ∧ isTopLevel .poll = true ∧ (State.reset.withFetchWord 8 0x3).turn ≠ .parts) ∧
    ((amid [opPacket 0x3] [] [.parts]).turn = .parts ∧
      begin .poll (amid [] [] []) = some (amid [] [] [], [.op .lclr, .pollRest])) ∧
    ((amid [opPacket 0x1] [] [.parts]).turn = .parts ∧ begin .irq (amid [] [] []) = none) ∧
    ((State.reset.withFetchWord 8 0x10).inside = [] ∧ (State.reset.withFetchWord 8 0x10).input = opPacket 0x10 :: [] ∧
      decode (opPacket 0x10) = .error .selectorTooWide) ∧
    (State.reset.inside = [] ∧ State.reset.input = []) ∧
    ((State.reset.withFetchWord 8 0xE).inside = .op .enable :: [] ∧ (State.reset.withFetchWord 8 0xE).turn = .whole) ∧
    ((amid [] [.op .fstep] [.parts]).turn = .parts ∧
      begin .fstep (amid [] [] []) = some (amid [] [] [], [.op .shadow, .op .ema])) ∧
    ((amid [] [.op .shadow] [.parts]).turn ≠ .outside ∧ begin .shadow (amid [] [] []) = none) ∧
    (amid [] [.pollRest] [.parts]).turn ≠ .outside ∧ (amid [] [.gateBuilt .modeChange] [.whole]).turn = .whole ∧
    (∃ s : State, s.inside = [.gateBuilt .modeChange] ∧ s.turn = .parts ∧
      begin (.gate .modeChange (s.built .modeChange)) { s with inside := [], turns := s.turns.tail } =
        some ({ s with inside := [], turns := [] }, [.op (.evtMotionMode .enabled)])) := by
  refine ⟨⟨rfl, rfl, rfl, rfl, by decide⟩, ⟨rfl, rfl⟩, ⟨rfl, rfl⟩, ⟨rfl, rfl, rfl⟩, ⟨rfl, rfl⟩, ⟨rfl, rfl⟩, ⟨rfl, rfl⟩,
    ⟨by decide, rfl⟩, by decide, rfl,
    ⟨{ amid [] [.gateBuilt .modeChange] [.parts] with mpay := mpayOf .enabled }, rfl, rfl, rfl⟩⟩

/-- Refused between operations, passed over inside one; POLL begun whole, begun by its parts, and nothing begun. -/
theorem witness_MicroOperationsHappenOnlyInside :
    (decode (opPacket 0x4) = .ok .lclr ∧ isTopLevel .lclr = false) ∧ (amid [opPacket 0x4] [] []).inside = [] ∧
    ((amid [opPacket 0x4] [.pollRest] [.outside]).inside ≠ [] ∧ (amid [opPacket 0x4] [.pollRest] [.outside]).turn = .outside) ∧
    (stepped (amid [opPacket 0x3] [] [])).map (·.inside) = some [] ∧
    (stepped (amid [opPacket 0x3] [] [.parts])).map (·.inside) = some [.op .lclr, .pollRest] ∧
    stepped (amid [] [] []) = some (amid [] [] []) := by
  exact ⟨⟨rfl, rfl⟩, rfl, ⟨by decide, rfl⟩, by decide, by decide, rfl⟩

/-- An IRQ, a RESET, another POLL and nothing asked for, while POLL waits for the sensor. -/
theorem witness_WaitingOperationAdmitsOnlyInterrupts :
    (amid [] [.op .rdsens] [.outside]).inside ≠ [] ∧ (amid [] [.op .rdsens] [.outside]).turn = .outside ∧
    (amid [opPacket 0x1] [.op .rdsens] [.outside]).input = encode .irq :: [] ∧
    (amid [opPacket 0x0] [.op .rdsens] [.outside]).input = encode .reset :: [] ∧
    (∀ rest, (amid [opPacket 0x3] [.op .rdsens] [.outside]).input ≠ encode .irq :: rest ∧
      (amid [opPacket 0x3] [.op .rdsens] [.outside]).input ≠ encode .reset :: rest) ∧
    (∀ rest, (amid [] [.op .rdsens] [.outside]).input ≠ encode .irq :: rest ∧
      (amid [] [.op .rdsens] [.outside]).input ≠ encode .reset :: rest) := by
  refine ⟨by decide, rfl, rfl, rfl, fun rest => ⟨?_, ?_⟩, fun rest => ⟨?_, ?_⟩⟩ <;>
    simp [amid, opPacket, encode]

/-- A POLL, a SETMODE and a mode command, performed by their parts. -/
theorem witness_PartsEndAsTheWhole :
    (amid [opPacket 0x3] [] [.parts, .whole, .parts, .parts]).inside = [] ∧
    (∀ u ∈ [Turn.parts, .whole, .parts, .parts], u ≠ Turn.outside) ∧
    decode (opPacket 0x3) = .ok .poll ∧ decode ⟨.op, [0x2, 0, 0x00, 0x00]⟩ = .ok (.setmode .api 0x00 0x00) ∧
    decode ⟨.mc, [0x00, 0x00]⟩ = .ok (.cmdSetMode .disabled) ∧ isTopLevel (.setmode .api 0x00 0x00) = true ∧
    isTopLevel (.cmdSetMode .disabled) = true ∧
    (after .poll (amid [] [] [.parts, .whole, .parts, .parts])).isSome = true ∧
    (after (.setmode .api 0x00 0x00) (amid [] [] [.parts])).isSome = true := by
  exact ⟨rfl, by decide, rfl, rfl, rfl, rfl, rfl, by decide, by decide⟩

theorem witness_SelectorsDecodeToTheirRows : (16 ≤ 16 ∧ 16 < 256) ∧ (16 ≤ 255 ∧ 255 < 256) := by decide

theorem witness_DecodeOfEncodeIsIdentity :
    Instr.wf (.put16le 3 0xFFFF) = true ∧ Instr.wf (.put16le 13 0x8000) = true ∧
      Instr.wf (.gate .motionData (motionPayload (smp 1 (-1) 300 (-300) 0 32767))) = true ∧
      Instr.wf (.gate .modeChange [0x00, 0x01]) = true ∧ Instr.wf (.setmode .command 0xFF 0xFF) = true := by decide

theorem witness_DecodedPacketIsTheEncoding :
    decode ⟨.op, [0xD, 5, 0xD4, 0xFE]⟩ = .ok (.put16le 13 (pat16 (-300))) ∧ decode ⟨.mc, [0x00, 0x01]⟩ = .ok (.cmdSetMode .enabled) := by
  exact ⟨rfl, rfl⟩

theorem witness_PacketMatchesOnlyItsOwnRow : Instr.wf (.gate .modeChange [0x00, 0x00]) = true ∧ rowOf .irq ≠ rowOf .reset := by
  decide

/-- The invariant holds of a small state whose CTL log is empty, in the mode and latch of reset. -/
theorem inv_idle (q : List Packet) (raw shad : Lanes Reg) : Inv { idle with input := q, raw := raw, shad := shad } :=
  ⟨rfl, rfl, fun _ => rfl, fun _ he => absurd he List.not_mem_nil, rfl, rfl, rfl⟩

theorem witness_EveryStepKeepsInvariant :
    (∃ s t, Inv s ∧ step s = .next t ∧ t.mode = .enabled ∧ t.tx ≠ s.tx) ∧
    (∃ s t, Inv s ∧ s.inside = [.op .fstep, .op .encmd, .gateBuilt .motionData] ∧ step s = .next t ∧ t.inside ≠ []) :=
  ⟨⟨_, _, inv_idle [⟨.op, [0x2, 0, 0x00, 0x01]⟩] (wroteLanes zeros) (wroteLanes zeros), rfl, rfl, by decide⟩,
    ⟨{ idle with inside := [.op .fstep, .op .encmd, .gateBuilt .motionData] }, _,
      ⟨rfl, rfl, fun _ => rfl, fun _ he => absurd he List.not_mem_nil, rfl, rfl, rfl⟩, rfl, rfl, by decide⟩⟩

theorem witness_UnwrittenContentsNeverLeak :
    ∃ s t, s ≠ t ∧ Inv s ∧ Inv t ∧ AgreeWhereWritten s t ∧ isTopLevel .poll = true ∧ s.latch = true := by
  refine ⟨{ idle with latch := true, raw := Lanes.ofFn fun _ => ⟨1, false⟩ },
    { idle with latch := true, raw := Lanes.ofFn fun _ => ⟨2, false⟩ }, by decide, ?_, ?_,
    ⟨fun i => by fin_cases i <;> exact ⟨rfl, by decide⟩, rfl⟩, rfl, rfl⟩ <;>
  exact ⟨rfl, rfl, fun _ => rfl, fun _ he => absurd he List.not_mem_nil, rfl, rfl, rfl⟩

theorem witness_FirstEnableAfterReset : State.reset.observer = .absent := rfl
theorem witness_IrqSetsLatchOnlyWhileEnabled : busy.mode = .enabled ∧ idle.mode = .disabled := by decide

theorem witness_LatchChangesOnlyByItsWriters :
    (after .irq { busy with latch := false }).map (·.latch) = some true ∧ (after .enable idle).map (·.latch) = some true ∧
      (after (.setmode .api 0 1) idle).map (·.latch) = some true ∧
      (after (.cmdSetMode .enabled) idle).map (·.latch) = some true ∧ idle.latch = false ∧ busy.latch = true ∧
      (after .lclr busy).map (·.latch) = some false ∧ (after .poll listening).map (·.latch) = some false ∧
      (after .reset busy).map (·.latch) = some false := by decide

theorem witness_UndefinedModeRequestIsRefused :
    ((0x01 : Byte) ≠ 0x00 ∨ 1 < (0x01 : Byte).toNat) ∧ ((0x00 : Byte) ≠ 0x00 ∨ 1 < (0x02 : Byte).toNat) ∧
      ((0xFF : Byte) ≠ 0x00 ∨ 1 < (0x00 : Byte).toNat) ∧ ((0x00 : Byte) ≠ 0x00 ∨ 1 < (0xFF : Byte).toNat) ∧
      ((State.reset.withFetchWord 16 0x0002).inside = [] ∧
        (State.reset.withFetchWord 16 0x0002).input = ⟨.mc, [0x00, 0x02]⟩ :: []) ∧
      ((State.reset.withFetchWord 16 0x0101).inside = [] ∧
        (State.reset.withFetchWord 16 0x0101).input = ⟨.mc, [0x01, 0x01]⟩ :: []) := by decide

theorem witness_ModeChangeAnnouncedUnlessCommanded :
    Mode.enabled ≠ idle.mode ∧ Mode.disabled ≠ busy.mode ∧ idle.observer = .absent := by decide

theorem witness_ModeChangesOnlyByModeControl :
    (after .reset busy).map (·.mode) = some .disabled ∧ (after .enable idle).map (·.mode) = some .enabled ∧
      (after .disable busy).map (·.mode) = some .disabled ∧ (after (.cmdSetMode .disabled) busy).map (·.mode) = some .disabled ∧
      (after (.setmode .api 0 1) idle).map (·.mode) = some .enabled ∧ busy.mode = .enabled ∧ idle.mode = .disabled := by decide

theorem witness_BurstReadWritesAllOfRaw : listening.sensor = smp 1000 0 0 0 0 0 :: [] ∧ idle.sensor = [] := by decide

theorem witness_TruncationFollowsItsTable :
    ((-5 : Int) = 4 * (-2) + 3 ∧ (0 : Int) ≤ 3 ∧ (3 : Int) ≤ 3 ∧ (-5 : Int) < 0 ∧ (3 : Int) ≠ 0) ∧
      ((-4 : Int) = 4 * (-1) + 0 ∧ (0 : Int) ≤ 0) ∧ ((5 : Int) = 4 * 1 + 1 ∧ (0 : Int) ≤ 5) := by decide

theorem witness_TruncModesDifferOnlyOnNegativeFractions :
    (after .ema (st .enabled false zeros zeros (smp (-1) 0 0 0 0 0))).map (fun t => t.filtVal 0) = some 0 ∧
      (after .ema { st .enabled false zeros zeros (smp (-1) 0 0 0 0 0) with truncMode := .towardNegInf }).map
        (fun t => t.filtVal 0) = some (-1) := by decide

theorem witness_LanesAreIndependent :
    ∃ s u : State, s ≠ u ∧ s.truncMode = u.truncMode ∧ (s.shad.get 0).value = (u.shad.get 5).value ∧
      (s.raw.get 0).value = (u.raw.get 5).value :=
  ⟨st .enabled false zeros (smp 7 0 0 0 0 0) (smp 9 0 0 0 0 0), st .enabled false zeros (smp 1 0 0 0 0 7) (smp 2 0 0 0 0 9),
    by decide, rfl, rfl, rfl⟩

theorem witness_ConstantInputIsApproachedMonotonically :
    (st .enabled false zeros zeros (smp 1000 (-1000) 0 0 0 0)).filtVal 0 ≤ (st .enabled false zeros zeros (smp 1000 (-1000) 0 0 0 0)).rawVal 0 ∧
      (st .enabled false zeros zeros (smp 1000 (-1000) 0 0 0 0)).rawVal 1 ≤ (st .enabled false zeros zeros (smp 1000 (-1000) 0 0 0 0)).filtVal 1 := by
  decide

/-- The lanes stop at `d = 3`, `d = 3`, `d = -3`, `d = -3` and `d = 3`, and move at `d = 4`: the clauses' boundaries. -/
theorem witness_LaneStopsExactlyWhereListed :
    (after .ema (st .enabled false zeros (smp 5 1 (-1) 0 0 0) (smp 8 4 (-4) (-3) 3 4))).map (fun t => regValues t.filt) =
      some (smp 5 1 (-1) 0 0 1) ∧
      (after .ema { st .enabled false zeros (smp 5 1 (-1) 0 0 0) (smp 8 4 (-4) (-3) 3 4) with
        truncMode := .towardNegInf }).map (fun t => regValues t.filt) = some (smp 5 1 (-2) (-1) 0 1) := by decide

theorem witness_LaneSettlesWithinThreeOfInput : 65535 ≤ 65535 := by decide
theorem witness_Put16leWritesLowThenHigh : isSampleIndex 3 = true ∧ isSampleIndex 13 = true := by decide
theorem witness_Put16leAtOtherIndices :
    (isSampleIndex 0 = false ∧ 0 + 1 < 15) ∧ (isSampleIndex 12 = false ∧ 12 + 1 < 15) ∧
      (isSampleIndex 14 = false ∧ 15 ≤ 14 + 1) ∧ (isSampleIndex 15 = false ∧ 15 ≤ 15 + 1) := by decide

theorem witness_EncmmBuildsModePayload : Mode.enabled = .enabled ∧ Mode.disabled ≠ .enabled := by decide

theorem witness_PayloadDecodesToFilteredValues :
    (after .encmd idle).map (·.pay) = (after .encmd busy).map (·.pay) ∧ idle ≠ busy := by decide

theorem witness_GateEmitsUnchangedOrDrops :
    payloadFits .motionData (motionPayload (smp 250 0 0 0 0 0)) = true ∧ payloadFits .modeChange [0x00, 0x01] = true ∧
      idle.observer = .absent ∧ ({ idle with observer := .function [] false } : State).observer = .function [] false ∧
      ({ idle with observer := .function [] true } : State).observer = .function [] true := by decide

theorem witness_ObserverSeesFieldsAndVetoes :
    ({ idle with observer := .function [] true } : State).observer = .function [] true ∧
      ({ idle with observer := .answers [true] } : State).observer = .answers (true :: []) ∧
      ({ idle with observer := .answers [] } : State).observer = .answers [] := by decide

theorem witness_GateRefusesBytesOutsideFormat :
    payloadFits .motionData (List.replicate 15 0) = false ∧ payloadFits .modeChange [0x00, 0x02] = false ∧
      payloadFits .motionData [] = false := by decide

theorem witness_PollRunsOneSequenceIfLatched : idle.latch = false ∧ busy.latch = true ∧ busy.observer = .absent := by decide
theorem witness_PollIsItsMicroOperations : listening.latch = true := by decide
theorem witness_IrqInsidePollIsIrqAfterIt : listening.latch = true ∧ listening.mode = .enabled := by decide

theorem witness_EachServedInterruptSendsOnePayload :
    ({ busy with latch := false } : State).mode = .enabled ∧ ({ busy with latch := false } : State).observer = .absent ∧
      ({ busy with latch := false } : State).latch = false := by decide

theorem witness_EveryOperationCompletes :
    Instr.wf (.put16le 13 0) = true ∧ Instr.wf (.gate .modeChange [0x00, 0x00]) = true ∧
      modeRequest 0x00 0x02 = none := by decide

theorem witness_RegistersChangeOnlyByTheirWriters :
    (after .rdsens listening).map (·.raw) ≠ some listening.raw ∧
      (after .shadow (st .enabled false (smp 1 1 1 1 1 1) zeros zeros)).map (·.shad) ≠ some (wroteLanes zeros) ∧
      (after .enable (st .disabled false (smp 1 1 1 1 1 1) zeros zeros)).map (·.filt) ≠ some (wroteLanes (smp 1 1 1 1 1 1)) := by
  decide

theorem witness_SentPayloadsAreNeverChanged :
    (after .poll listening).isSome = true ∧ Instr.poll ≠ .reset ∧ Instr.wf .poll = true ∧ Instr.wf (.encmm .enabled) = true := by
  decide

theorem witness_LogsAreNeverRead : Instr.enable ≠ .reset ∧ (after .enable idle).isSome = true := by decide
theorem witness_ParametersAreNeverChanged : (after .poll listening).isSome = true ∧ Instr.poll ≠ .reset := by decide

theorem witness_SignalsCarryEveryByte :
    (payloadFits .motionData (motionPayload zeros) = true ∧ payloadFits .modeChange [0x00, 0x01] = true) ∧
    (motionPayload (smp 1 (-1) 300 (-300) 0 32767)).length ≤ 15 ∧
      (motionPayload (smp 1 (-1) 300 (-300) 0 32767))[0]? = some 0x00 ∧
      (motionPayload (smp 1 (-1) 300 (-300) 0 32767))[14]? = some 0x7F := by decide

end Sys2Proof.Tests
end

section
/-! The Interrupt Latch (R70, R71): what IRQ does in each mode, when its line asks for it, and both orders against LCLR. -/

namespace Sys2Proof.Machine

/-- The interrupt path is open exactly in Enabled (R19). -/
@[simp] theorem State.ie_of_enabled {s : State} (h : s.mode = .enabled) : s.ie = true := decide_eq_true h

@[simp] theorem State.ie_of_disabled {s : State} (h : s.mode = .disabled) : s.ie = false := by
  simp [State.ie, h]

/-- An accepted interrupt sets LATCH and nothing else (R70). -/
theorem exec_irq_of_enabled {s : State} (h : s.mode = .enabled) : exec .irq s = .next (s.setLatch true) := by
  rw [exec_irq, State.ie_of_enabled h]
  rfl

/-- An edge that finds the path closed is lost (R71). -/
theorem exec_irq_of_disabled {s : State} (h : s.mode = .disabled) : exec .irq s = .next s := by
  rw [exec_irq, State.ie_of_disabled h]
  rfl

/-- The data-ready line asks for one IRQ exactly on its falling edge (R70, R163). -/
theorem opsOfDrdy_eq_irq_iff (before now : Bool) : opsOfDrdy before now = [.irq] ↔ before = true ∧ now = false := by
  cases before <;> cases now <;> simp [opsOfDrdy]

/-- An interrupt that comes before the clear is consumed by it (R70). -/
theorem runOps_irq_lclr {s : State} (h : s.mode = .enabled) :
    runOps [.irq, .lclr] s = .next ((s.setLatch false).setPending true) := by
  rw [runOps_cons (exec_irq_of_enabled h)]
  exact runOps_single (exec_lclr _)

/-- An interrupt that comes after the clear is kept (R70). -/
theorem runOps_lclr_irq {s : State} (h : s.mode = .enabled) :
    runOps [.lclr, .irq] s = .next ((s.setLatch true).setPending s.latch) := by
  have hmode : ((s.setLatch false).setPending s.latch).mode = .enabled := h
  rw [runOps_cons (exec_lclr s)]
  exact runOps_single (exec_irq_of_enabled hmode)

end Sys2Proof.Machine

open Sys2Proof Sys2Proof.Machine

/-- Settles O15: by the mode in force, and by running IRQ and LCLR in either order. -/
theorem irqSetsLatchOnlyWhileEnabled : Obligations.IrqSetsLatchOnlyWhileEnabled := by
  refine ⟨?selector, opsOfDrdy_eq_irq_iff, fun _ => exec_irq_of_enabled, fun _ => exec_irq_of_disabled,
    fun _ h => ⟨_, runOps_irq_lclr h, ?consumed⟩, fun _ h => ⟨_, runOps_lclr_irq h, ?kept⟩⟩
  case selector => rfl
  case consumed => rfl
  case kept => rfl

end

section
/-! The Smoothing Filter's copy and blend (R91, R92, R94): what each leaves in a lane, and truncation by quotient and
remainder. -/

namespace Sys2Proof.Machine

/-- Toward negative infinity, a quarter is the quotient (R94). -/
theorem trunc4_towardNegInf_eq {n q r : Int} (hn : n = 4 * q + r) (h0 : 0 ≤ r) (h3 : r ≤ 3) :
    trunc4 .towardNegInf n = q := by
  simp only [trunc4]
  omega

/-- Toward zero, a quarter is the quotient of a number that is not negative or has no fraction (R94). -/
theorem trunc4_towardZero_eq {n q r : Int} (hn : n = 4 * q + r) (h0 : 0 ≤ r) (h3 : r ≤ 3) (h : 0 ≤ n ∨ r = 0) :
    trunc4 .towardZero n = q := by
  have hr : 0 ≤ n ∨ n % 4 = 0 := by omega
  simp only [trunc4, if_pos hr]
  omega

/-- Toward zero, a quarter of a negative number with a fraction is one above the quotient (R94). -/
theorem trunc4_towardZero_eq_add_one {n q r : Int} (hn : n = 4 * q + r) (h0 : 0 ≤ r) (h3 : r ≤ 3) (h : n < 0 ∧ r ≠ 0) :
    trunc4 .towardZero n = q + 1 := by
  have hr : ¬(0 ≤ n ∨ n % 4 = 0) := by omega
  simp only [trunc4, if_neg hr]
  omega

/-- `raw - prev` fits 17 signed bits, and what EMA divides by 4 fits 18 (R92). -/
theorem blend_range (prev raw : S16) :
    |raw.toInt - prev.toInt| ≤ 65535 ∧
      -131072 ≤ 4 * prev.toInt + (raw.toInt - prev.toInt) ∧ 4 * prev.toInt + (raw.toInt - prev.toInt) ≤ 131068 := by
  have hp := s16_range prev
  have hr := s16_range raw
  exact ⟨abs_le.2 (by omega), by omega, by omega⟩

/-- EMA's integer is less than 1 from the exact value `(3*prev + raw)/4` (R92). -/
theorem emaInt_error (mode : TruncMode) (prev raw : Int) : |4 * emaInt mode prev raw - (3 * prev + raw)| < 4 := by
  obtain ⟨hlow, hhigh, -⟩ := trunc4_bounds mode (4 * prev + (raw - prev))
  unfold emaInt
  exact abs_lt.2 (by omega)

/-- SHADOW gives every lane of SHAD the value of FILT (R91). -/
@[simp] theorem State.shadowCopy_shad_get (s : State) (k : Fin 6) :
    s.shadowCopy.shad.get k = Reg.wrote (s.filt.get k).value := by
  simp [State.shadowCopy]

/-- EMA gives every lane of FILT the blend of SHAD and RAW (R92). -/
@[simp] theorem State.emaUpdate_filt_get (s : State) (k : Fin 6) :
    s.emaUpdate.filt.get k = Reg.wrote (emaLane s.truncMode (s.shad.get k).value (s.raw.get k).value) := by
  simp [State.emaUpdate]

@[simp] theorem State.shadowCopy_shadVal (s : State) (k : Fin 6) : s.shadowCopy.shadVal k = s.filtVal k := by
  simp [State.shadVal, State.filtVal]

@[simp] theorem State.emaUpdate_filtVal (s : State) (k : Fin 6) :
    s.emaUpdate.filtVal k = emaInt s.truncMode (s.shadVal k) (s.rawVal k) := by
  simp [State.shadVal, State.filtVal, State.rawVal]

/-- SHADOW writes no register but SHAD's, no flag and no log (R91). -/
theorem State.shadowCopy_frame (s : State) : { s.shadowCopy with shad := s.shad } = s := rfl

/-- EMA writes no register but FILT's, no flag and no log (R92). -/
theorem State.emaUpdate_frame (s : State) : { s.emaUpdate with filt := s.filt } = s := rfl

end Sys2Proof.Machine

open Sys2Proof Sys2Proof.Machine

/-- Settles O28, by what SHADOW leaves in each lane and its frame. -/
theorem shadowCopiesFilt : Obligations.ShadowCopiesFilt := by
  refine ⟨rfl, fun s => ⟨s.shadowCopy, exec_shadow s, fun k => ⟨s.shadowCopy_shadVal k, ?written⟩, s.shadowCopy_frame⟩⟩
  case written => rw [State.shadowCopy_shad_get, Reg.wrote_written]

/-- Settles O29, by EMA's integer lane: exact because it stays in 16 bits, and within one of the exact value. -/
theorem emaIsTheExactBlendTruncated : Obligations.EmaIsTheExactBlendTruncated := by
  refine ⟨rfl, fun s => ⟨s.emaUpdate, exec_ema s, fun k => ⟨s.emaUpdate_filtVal k, ?error, ?written, ?range⟩,
    s.emaUpdate_frame⟩⟩
  case error =>
    rw [State.emaUpdate_filtVal]
    exact emaInt_error s.truncMode (s.shadVal k) (s.rawVal k)
  case written => rw [State.emaUpdate_filt_get, Reg.wrote_written]
  case range => exact blend_range (s.shad.get k).value (s.raw.get k).value

/-- Settles O31, by quotient and remainder in each mode; the table is computed. -/
theorem truncationFollowsItsTable : Obligations.TruncationFollowsItsTable := by
  refine ⟨fun n q r hn h0 h3 => ⟨trunc4_towardNegInf_eq hn h0 h3, trunc4_towardZero_eq hn h0 h3,
    trunc4_towardZero_eq_add_one hn h0 h3⟩, ?towardZero, ?towardNegInf⟩
  case towardZero => decide
  case towardNegInf => decide

end

section
/-! The Event Encoder (R105 to R109): where PUT16LE has both its cells, the two bytes it writes of a sample, and what is left
unchanged when a payload space is written. -/

namespace Sys2Proof.Machine

/-- PAY has both cells at each of PUT16LE's own indices (R30, R105). -/
theorem cellsExist_of_isSampleIndex {i : Nat} (h : isSampleIndex i = true) : i + 1 < Config.mdLen := by
  simp only [isSampleIndex, Bool.and_eq_true, decide_eq_true_eq] at h
  obtain ⟨-, hi⟩ := h
  exact Nat.lt_of_le_of_lt (Nat.succ_le_succ hi) (by decide)

/-- PUT16LE completes wherever PAY has both cells (R105). -/
theorem exec_put16le_of_cellsExist {i : Nat} (h : i + 1 < Config.mdLen) (v : S16) (s : State) :
    exec (.put16le i v) s = .next (s.setPay (s.pay.put16le i v)) := by
  rw [exec_put16le]
  rcases execPut16le_cases i v s with ⟨-, hnext⟩ | ⟨hover, -⟩
  · exact hnext
  · omega

/-- A write of PAY leaves every register, flag and log alone. -/
theorem State.setPay_frame (s : State) (m : Memory) : { s.setPay m with pay := s.pay } = s := rfl

/-- A write of MPAY leaves every register, flag and log alone. -/
theorem State.setMpay_frame (s : State) (m : Memory) : { s.setMpay m with mpay := s.mpay } = s := rfl

/-- The two bytes ENCMD leaves for each lane are those of its filtered value (R106). -/
theorem State.buildMotion_read_lane (s : State) (k : Fin 6) :
    s.buildMotion.pay.read (3 + 2 * k.val) = some (lowByte (s.filt.get k).value) ∧
      s.buildMotion.pay.read (4 + 2 * k.val) = some (highByte (s.filt.get k).value) := by
  simpa [State.buildMotion] using payOf_read_lane (regValues s.filt) k

/-- The byte of a mode, by whether the mode is Enabled (R58). -/
theorem modeByte_eq_ite (m : Mode) :
    modeByte m = if m = .enabled then Config.modeEnabled else Config.modeDisabled := by
  cases m <;> rfl

end Sys2Proof.Machine

open Sys2Proof Sys2Proof.Machine

/-- Settles O39, by the two cells PUT16LE writes and the numbers its bytes spell; PAY has both cells at each of its indices. -/
theorem put16leWritesLowThenHigh : Obligations.Put16leWritesLowThenHigh := by
  intro i v s hi
  obtain ⟨hlow, hhigh, hother⟩ := Memory.read_put16le s.pay i v
  exact ⟨rfl, s.setPay (s.pay.put16le i v), exec_put16le_of_cellsExist (cellsExist_of_isSampleIndex hi) v s,
    ⟨lowByte v, highByte v, hlow, hhigh, lowByte_toNat v, highByte_toNat v⟩, hother, s.setPay_frame _⟩

/-- Settles O41, by the cells of the PAY that ENCMD builds; above them nothing, since that PAY is in canonical form. -/
theorem encmdBuildsTheFixedLayout : Obligations.EncmdBuildsTheFixedLayout := by
  refine ⟨rfl, fun s => ?_⟩
  obtain ⟨hindex, hmask, hcount⟩ := payOf_read_header (regValues s.filt)
  refine ⟨s.buildMotion, exec_encmd s, hindex, hmask, hcount, fun k => ?lane,
    fun _ => Memory.read_of_wf (payOf_wf (regValues s.filt)), ?length, s.setPay_frame _⟩
  case lane =>
    obtain ⟨hlow, hhigh⟩ := s.buildMotion_read_lane k
    exact ⟨_, _, hlow, hhigh, lowByte_toNat _, highByte_toNat _⟩
  case length => rfl

/-- Settles O43, by the two cells of the MPAY that ENCMM builds; above them nothing, since that MPAY is in canonical form. -/
theorem encmmBuildsModePayload : Obligations.EncmmBuildsModePayload := by
  intro new s
  obtain ⟨hindex, hmode⟩ := mpayOf_read new
  rw [modeByte_eq_ite] at hmode
  exact ⟨rfl, s.buildMode new, exec_encmm new s, hindex, hmode, fun _ => Memory.read_of_wf (mpayOf_wf new),
    s.setMpay_frame _⟩

end

section
/-! The Event Dispatch Gate (R115, R117): what GATE does with a payload of its kind, and what an offer sends by the
observer's answer. -/

namespace Sys2Proof.Machine

/-- GATE offers every payload of its kind to the observer, by the payload's own fields (R115). -/
theorem exec_gate_of_payloadFits {kind : EventKind} {payload : List Byte} (h : payloadFits kind payload = true)
    (s : State) :
    ∃ f, fieldsOf kind payload = some f ∧ exec (.gate kind payload) s = .next (s.offer kind payload f) := by
  rcases execGate_cases kind payload s with hoffer | ⟨hnone, -⟩
  · exact hoffer
  · have hsome : (fieldsOf kind payload).isSome = true := (fieldsOf_isSome kind payload).trans h
    simp [hnone] at hsome

/-- What an offer leaves in TX is settled by the observer's answer (R115). -/
theorem State.offer_tx (s : State) (kind : EventKind) (payload : List Byte) (f : EventFields) :
    (s.offer kind payload f).tx = if (s.observe f).1 = true then s.tx else s.tx ++ [(kind, payload)] := by
  rw [State.offer_spec]

/-- An observer that answers every call alike gives that answer to these fields (R116; entry 4). -/
theorem State.observe_fst_of_constant {s : State} {b : Bool} (h : s.observer = .function [] b) (f : EventFields) :
    (s.observe f).1 = b := by
  rw [State.observe_function h]
  rfl

/-- A payload that is not skipped is sent unchanged, once (R115). -/
theorem State.offer_tx_of_pass {s : State} {f : EventFields} (h : (s.observe f).1 = false) (kind : EventKind)
    (payload : List Byte) : (s.offer kind payload f).tx = s.tx ++ [(kind, payload)] := by
  simp [State.offer_tx, h]

/-- A payload that is skipped is not sent (R115). -/
theorem State.offer_tx_of_skip {s : State} {f : EventFields} (h : (s.observe f).1 = true) (kind : EventKind)
    (payload : List Byte) : (s.offer kind payload f).tx = s.tx := by
  simp [State.offer_tx, h]

end Sys2Proof.Machine

open Sys2Proof Sys2Proof.Machine

/-- Settles O45: GATE is the offer of the payload's fields, whose effect on TX the observer's answer settles; the rest is the
offer's frame. -/
theorem gateEmitsUnchangedOrDrops : Obligations.GateEmitsUnchangedOrDrops := by
  intro kind payload s hfits
  obtain ⟨f, hfields, hexec⟩ := exec_gate_of_payloadFits hfits s
  obtain ⟨-, habsent, hframe⟩ := s.offer_frame kind payload f
  exact ⟨rfl, f, s.offer kind payload f, hfields, hexec, s.offer_tx kind payload f, habsent,
    fun hpass => State.offer_tx_of_pass (State.observe_fst_of_constant hpass f) kind payload,
    fun hskip => State.offer_tx_of_skip (State.observe_fst_of_constant hskip f) kind payload, hframe⟩

end

section
/-! The encodings (R62, R51, R56, R57): which bytes each of the decoder's parts accepts and what it reads from them, so that
decoding and encoding undo each other, in both directions. -/

namespace Sys2Proof

/-! ### One inversion for each part of the decoder -/

theorem decodePlain_eq_ok {i j : Instr} {l : List Byte} : decodePlain i l = .ok j ↔ l = [] ∧ j = i := by
  cases l with
  | nil => simp [decodePlain, eq_comm]
  | cons b rest => simp [decodePlain]

/-- SETMODE's operands are an origin's byte and any two bytes (R72, R163; entry 8). -/
theorem decodeSetmode_ok {l : List Byte} {i : Instr} (h : decodeSetmode l = .ok i) :
    ∃ o id m, i = .setmode o id m ∧ l = [originByte o, id, m] := by
  unfold decodeSetmode at h
  split at h
  · next o id m =>
    split at h
    · next ho => cases h; exact ⟨.api, id, m, rfl, by rw [ho]; rfl⟩
    · split at h
      · next ho => cases h; exact ⟨.command, id, m, rfl, by rw [ho]; rfl⟩
      · cases h
  · cases h

/-- ENCMM's operand is a mode's byte (R109; entry 8). -/
theorem decodeEncmm_ok {l : List Byte} {i : Instr} (h : decodeEncmm l = .ok i) :
    ∃ new, i = .encmm new ∧ l = [modeByte new] := by
  unfold decodeEncmm at h
  split at h
  · next b =>
    split at h
    · next new hb => cases h; exact ⟨new, rfl, by rw [modeOfByte_eq_some.1 hb]⟩
    · cases h
  · cases h

/-- GATE's operands are a kind's byte and what varies in a payload of that kind (R115; entry 8). -/
theorem decodeGate_ok {l : List Byte} {i : Instr} (h : decodeGate l = .ok i) :
    ∃ kind payload, i = .gate kind payload ∧ payloadFits kind payload = true ∧
      l = kindByte kind :: variablePart kind payload := by
  unfold decodeGate at h
  split at h
  · cases h
  · split at h
    · next hk =>
      split at h
      · next v hv =>
        cases h
        exact ⟨.motionData, motionPayload v, rfl, rfl, by rw [hk, sampleOfBytes_eq_some.1 hv]; rfl⟩
      · cases h
    · split at h
      · next hk =>
        split at h
        · split at h
          · next new hm =>
            cases h
            exact ⟨.modeChange, modePayload new, rfl, Machine.payloadFits_modePayload new,
              by rw [hk, modeOfByte_eq_some.1 hm]; rfl⟩
          · cases h
        · cases h
      · cases h

/-- The lane of a lane's payload index (R106). -/
@[simp] theorem laneOfIndex_sampleIndex (k : Nat) : laneOfIndex (sampleIndex k) = k := by
  simp only [laneOfIndex, sampleIndex]; omega

/-- PUT16LE is given the payload index of each of the six lanes (R105, R106). -/
theorem isSampleIndex_sampleIndex {k : Nat} (h : k < 6) : isSampleIndex (sampleIndex k) = true := by
  unfold isSampleIndex sampleIndex
  rw [decide_eq_true (by omega), decide_eq_true (by omega), decide_eq_true (by omega)]
  rfl

/-- PUT16LE's indices are the payload indices of the six lanes (R105, R106). -/
theorem exists_lane_of_isSampleIndex {i : Nat} (h : isSampleIndex i = true) : ∃ k, k < 6 ∧ i = sampleIndex k := by
  simp only [isSampleIndex, Bool.and_eq_true, decide_eq_true_eq] at h
  exact ⟨(i - 3) / 2, by omega, by simp only [sampleIndex]; omega⟩

/-- PUT16LE's operands are a lane and a value's two bytes (R105; entry 8). -/
theorem decodePut16le_ok {l : List Byte} {i : Instr} (h : decodePut16le l = .ok i) :
    ∃ (k : Byte) (v : S16), k.toNat < 6 ∧ i = .put16le (sampleIndex k.toNat) v ∧ l = k :: le16 v := by
  unfold decodePut16le at h
  split at h
  · next k lo hi =>
    split at h
    · next hk => cases h; exact ⟨k, ofLe16 lo hi, hk, rfl, by rw [le16_ofLe16]⟩
    · cases h
  · cases h

/-! ### An operation by its selector -/

/-- A selector without operands: what decodes is its operation, and no byte follows. -/
theorem encode_of_decodePlain {i j : Instr} {sel : Byte} {n : Nat} {l : List Byte} (hsel : sel.toNat = n)
    (hi : i.wf = true) (he : encode i = ⟨.op, [BitVec.ofNat 8 n]⟩) (h : decodePlain i l = .ok j) :
    j.wf = true ∧ encode j = ⟨.op, sel :: l⟩ := by
  obtain ⟨rfl, rfl⟩ := decodePlain_eq_ok.1 h
  have hb : sel = BitVec.ofNat 8 n := by rw [← hsel]; simp
  exact ⟨hi, by rw [he, hb]⟩

/-- What an operation packet decodes to is well formed and has that packet (R62). -/
theorem encode_of_decodeOp {l : List Byte} {i : Instr} (h : decodeOp l = .ok i) :
    i.wf = true ∧ encode i = ⟨.op, l⟩ := by
  unfold decodeOp at h
  split at h
  · cases h
  · next sel operands =>
    split at h
    case h_3 hs =>
      obtain ⟨o, id, m, rfl, rfl⟩ := decodeSetmode_ok h
      rw [show sel = 0x2 from BitVec.eq_of_toNat_eq hs]; exact ⟨rfl, rfl⟩
    case h_12 hs =>
      obtain ⟨new, rfl, rfl⟩ := decodeEncmm_ok h
      rw [show sel = 0xB from BitVec.eq_of_toNat_eq hs]; exact ⟨rfl, rfl⟩
    case h_13 hs =>
      obtain ⟨kind, payload, rfl, hfits, rfl⟩ := decodeGate_ok h
      rw [show sel = 0xC from BitVec.eq_of_toNat_eq hs]; exact ⟨hfits, rfl⟩
    case h_14 hs =>
      obtain ⟨k, v, hk, rfl, rfl⟩ := decodePut16le_ok h
      rw [show sel = 0xD from BitVec.eq_of_toNat_eq hs]
      exact ⟨isSampleIndex_sampleIndex hk, by simp [encode]⟩
    case h_17 => cases h
    all_goals next hs => exact encode_of_decodePlain hs rfl rfl h

/-! ### The packet of each operation decodes to it -/

@[simp] theorem decode_encode_setmode (o : Origin) (id m : Byte) :
    decode (encode (.setmode o id m)) = .ok (.setmode o id m) := by
  cases o <;> rfl

@[simp] theorem decode_encode_encmm (new : Mode) : decode (encode (.encmm new)) = .ok (.encmm new) := by
  cases new <;> rfl

@[simp] theorem decode_encode_gate_motion (v : Sample) :
    decode (encode (.gate .motionData (motionPayload v))) = .ok (.gate .motionData (motionPayload v)) := by
  show decodeGate (0 :: sampleBytes v) = _
  simp [decodeGate]

@[simp] theorem decode_encode_gate_mode (m : Mode) :
    decode (encode (.gate .modeChange (modePayload m))) = .ok (.gate .modeChange (modePayload m)) := by
  cases m <;> rfl

/-- A payload of its kind comes back from GATE's packet, its constant bytes put back (R115; entry 8). -/
theorem decode_encode_gate {kind : EventKind} {payload : List Byte} (h : payloadFits kind payload = true) :
    decode (encode (.gate kind payload)) = .ok (.gate kind payload) := by
  cases kind with
  | motionData => obtain ⟨v, rfl⟩ := payloadFits_motion.1 h; exact decode_encode_gate_motion v
  | modeChange => obtain ⟨m, rfl⟩ := payloadFits_mode.1 h; exact decode_encode_gate_mode m

/-- A payload index comes back from PUT16LE's packet, which carries its lane (R105; entry 8). -/
theorem decode_encode_put16le {i : Nat} (h : isSampleIndex i = true) (v : S16) :
    decode (encode (.put16le i v)) = .ok (.put16le i v) := by
  obtain ⟨k, hk, rfl⟩ := exists_lane_of_isSampleIndex h
  have hb : (BitVec.ofNat 8 k).toNat = k := by rw [BitVec.toNat_ofNat]; omega
  show decodePut16le [BitVec.ofNat 8 (laneOfIndex (sampleIndex k)), lowByte v, highByte v] = _
  simp [decodePut16le, hb, hk]

end Sys2Proof

open Sys2Proof Sys2Proof.Machine

/-- Settles O7, one operation at a time: the operands of each come back from its packet. -/
theorem decodeOfEncodeIsIdentity : Obligations.DecodeOfEncodeIsIdentity := by
  intro i hwf
  cases i with
  | setmode o id m => exact decode_encode_setmode o id m
  | encmm new => exact decode_encode_encmm new
  | gate kind payload => exact decode_encode_gate hwf
  | put16le index v => exact decode_encode_put16le hwf v
  | evtMotionData v =>
    show decodeMd (motionPayload v) = _
    rw [decodeMd, unpackMotion_motionPayload]
  | evtMotionMode m =>
    show decodeMm (modePayload m) = _
    rw [decodeMm, unpackMode_modePayload]
  | cmdSetMode m =>
    show decodeMc (modePayload m) = _
    rw [decodeMc, unpackMode_modePayload]
  | _ => rfl

/-- Settles O8, one format at a time: each of the decoder's parts accepts only the bytes the encoder writes. -/
theorem decodedPacketIsTheEncoding : Obligations.DecodedPacketIsTheEncoding := by
  rintro ⟨format, bytes⟩ i h
  cases format with
  | op => exact encode_of_decodeOp h
  | md =>
    change decodeMd bytes = .ok i at h
    unfold decodeMd at h
    split at h
    · next v hv => cases h; exact ⟨rfl, by rw [unpackMotion_eq_some.1 hv]; rfl⟩
    · cases h
  | mm =>
    change decodeMm bytes = .ok i at h
    unfold decodeMm at h
    split at h
    · next m hm => cases h; exact ⟨rfl, by rw [unpackMode_eq_some.1 hm]; rfl⟩
    · cases h
  | mc =>
    change decodeMc bytes = .ok i at h
    unfold decodeMc at h
    split at h
    · next m hm => cases h; exact ⟨rfl, by rw [unpackMode_eq_some.1 hm]; rfl⟩
    · cases h

end

section
/-! The operation table (R62, R51, R56, R57): its rows are told apart by format and fixed bits, each operation's packet
carries the fixed bits of its own row, and selectors above the table decode to nothing. -/

namespace Sys2Proof

/-! ### The rows -/

/-- The nineteen rows (R62, R50). -/
def operationTable : List TableRow :=
  [rowOf .reset, rowOf .irq, rowOf (.setmode .api 0 0), rowOf .poll, rowOf .lclr, rowOf .rdsens, rowOf .shadow, rowOf .ema,
    rowOf .fclr, rowOf .fstep, rowOf .encmd, rowOf (.encmm .disabled), rowOf (.gate .modeChange []), rowOf (.put16le 3 0),
    rowOf .enable, rowOf .disable, rowOf (.evtMotionData ⟨0, 0, 0, 0, 0, 0⟩), rowOf (.evtMotionMode .disabled),
    rowOf (.cmdSetMode .disabled)]

/-- Every operation stands in a row of the table, whatever its operands. -/
theorem rowOf_mem_operationTable (i : Instr) : rowOf i ∈ operationTable := by
  cases i <;> simp [operationTable, rowOf]

/-- A format fixes how many bytes of a packet a row looks at, and which bits of them. -/
theorem operationTable_format : ∀ r ∈ operationTable, ∀ r' ∈ operationTable, r.format = r'.format →
    r.nbytes = r'.nbytes ∧ r.mask = r'.mask := by
  decide

/-- No two rows share format and fixed bits. -/
theorem operationTable_pattern : ∀ r ∈ operationTable, ∀ r' ∈ operationTable, r.format = r'.format →
    r.pattern = r'.pattern → r = r' := by
  decide

/-! ### A packet's leading bytes -/

/-- Bytes read as one number: those in front count for a power of 256 more. -/
theorem bytesToNat_append (a b : List Byte) :
    bytesToNat (a ++ b) = bytesToNat a * 256 ^ b.length + bytesToNat b := by
  have key : ∀ (b : List Byte) (n : Nat), b.foldl (fun n b => n * 256 + b.toNat) n =
      n * 256 ^ b.length + bytesToNat b := by
    intro b
    induction b with
    | nil => intro n; simp [bytesToNat]
    | cons x rest ih =>
      intro n
      have hx : bytesToNat (x :: rest) = rest.foldl (fun n b => n * 256 + b.toNat) x.toNat := by simp [bytesToNat]
      rw [List.foldl_cons, List.length_cons, hx, ih, ih]
      ring
  rw [bytesToNat, List.foldl_append]
  exact key b _

theorem bytesToNat_lt (l : List Byte) : bytesToNat l < 256 ^ l.length := by
  induction l using List.reverseRecOn with
  | nil => simp [bytesToNat]
  | append_singleton l b ih =>
    have hb := b.isLt
    have h1 : bytesToNat [b] = b.toNat := by simp [bytesToNat]
    rw [bytesToNat_append, List.length_append, pow_add, h1, List.length_singleton, pow_one]
    omega

/-- A mask of high bits sees only the high part of a number. -/
theorem and_shiftLeft_mask {hi lo mask k : Nat} (h : lo < 2 ^ k) :
    (hi * 2 ^ k + lo) &&& (mask <<< k) = (hi &&& mask) <<< k := by
  have hshift : (hi * 2 ^ k + lo) >>> k = hi := by
    rw [Nat.shiftRight_eq_div_pow, Nat.mul_comm, Nat.mul_add_div (Nat.two_pow_pos k), Nat.div_eq_of_lt h, Nat.add_zero]
  refine Nat.eq_of_testBit_eq fun n => ?_
  by_cases hn : k ≤ n
  · have hbit : hi.testBit (n - k) = (hi * 2 ^ k + lo).testBit n := by
      conv_lhs => rw [← hshift, Nat.testBit_shiftRight, Nat.add_sub_cancel' hn]
    simp [Nat.testBit_and, Nat.testBit_shiftLeft, hn, hbit]
  · simp [Nat.testBit_and, Nat.testBit_shiftLeft, hn]

/-- The fixed bits of a motion-data packet are its header (R51). -/
theorem motionPayload_fixedBits (v : Sample) :
    bytesToNat (motionPayload v) &&& 0xFFFFFF000000000000000000000000 = 0x00030C000000000000000000000000 := by
  have hpow : 256 ^ (sampleBytes v).length = 2 ^ 96 := by rw [sampleBytes_length]; norm_num
  have hlow : bytesToNat (sampleBytes v) < 2 ^ 96 := hpow ▸ bytesToNat_lt (sampleBytes v)
  have hhead : bytesToNat motionHeader = 0x00030C := rfl
  rw [motionPayload, bytesToNat_append, hpow, hhead]
  exact and_shiftLeft_mask (mask := 0xFFFFFF) hlow

/-- An operation's packet carries the fixed bits of its row (R62, R51, R56, R57). -/
theorem encode_fixedBits (i : Instr) :
    bytesToNat ((encode i).bytes.take (rowOf i).nbytes) &&& (rowOf i).mask = (rowOf i).pattern := by
  cases i with
  | evtMotionData v => exact motionPayload_fixedBits v
  | evtMotionMode m => cases m <;> rfl
  | cmdSetMode m => cases m <;> rfl
  | setmode o id m => exact (rfl : bytesToNat [0x2] &&& 0xF = 0x2)
  | encmm new => exact (rfl : bytesToNat [0xB] &&& 0xF = 0xB)
  | gate kind payload => exact (rfl : bytesToNat [0xC] &&& 0xF = 0xC)
  | put16le i v => exact (rfl : bytesToNat [0xD] &&& 0xF = 0xD)
  | _ => rfl

/-- An operation's packet has its row's format and length (R61, R62). -/
theorem encode_packetForm (i : Instr) : Laws.PacketForm.Statement i := by
  open Laws.PacketForm in
  cases i with
  | reset => exact reset
  | irq => exact irq
  | setmode o id m => exact setmode o id m
  | poll => exact poll
  | lclr => exact lclr
  | rdsens => exact rdsens
  | shadow => exact shadow
  | ema => exact ema
  | fclr => exact fclr
  | fstep => exact fstep
  | encmd => exact encmd
  | encmm new => exact encmm new
  | gate kind payload => exact gate kind payload
  | put16le i v => exact put16le i v
  | enable => exact enable
  | disable => exact disable
  | evtMotionData v => exact evtMotionData v
  | evtMotionMode m => exact evtMotionMode m
  | cmdSetMode m => exact cmdSetMode m

/-- A row of the table matches an operation's packet exactly when it is the operation's own row. -/
theorem matchesPacket_encode_iff {r : TableRow} (hr : r ∈ operationTable) (i : Instr) :
    r.matchesPacket (encode i) = true ↔ r = rowOf i := by
  obtain ⟨hformat, hlength⟩ := encode_packetForm i
  simp only [TableRow.matchesPacket, Bool.and_eq_true, decide_eq_true_eq]
  constructor
  · rintro ⟨⟨hf, -⟩, hbits⟩
    have hsame : r.format = (rowOf i).format := hf.symm.trans hformat
    obtain ⟨hbytes, hmask⟩ := operationTable_format r hr _ (rowOf_mem_operationTable i) hsame
    rw [hbytes, hmask, encode_fixedBits] at hbits
    exact operationTable_pattern r hr _ (rowOf_mem_operationTable i) hsame hbits.symm
  · rintro rfl
    exact ⟨⟨hformat, hlength⟩, encode_fixedBits i⟩

/-! ### Selectors above the table -/

/-- A selector has four bits (R62; entry 8). -/
theorem decodeOp_of_wide {sel : Byte} (h : 16 ≤ sel.toNat) (operands : List Byte) :
    decodeOp (sel :: operands) = .error .selectorTooWide := by
  simp only [decodeOp]
  split
  case h_17 => rfl
  all_goals omega

end Sys2Proof

open Sys2Proof Sys2Proof.Machine

/-- Settles O9: a row matches by format and fixed bits, which no two rows share, and a packet carries those of its own. -/
theorem packetMatchesOnlyItsOwnRow : Obligations.PacketMatchesOnlyItsOwnRow :=
  fun i j _ => matchesPacket_encode_iff (rowOf_mem_operationTable j) i

/-- Settles O5: the sixteen selectors are computed, and one above them is too wide. -/
theorem selectorsDecodeToTheirRows : Obligations.SelectorsDecodeToTheirRows := by
  refine ⟨by decide, fun w hlow hhigh => ?_⟩
  have hw : 16 ≤ (BitVec.ofNat 8 w).toNat := by rw [BitVec.toNat_ofNat]; omega
  simp [decodeTableWord, packetOfWord, decode, decodeOp_of_wide hw]

/-- Settles O6: each packet is computed. -/
theorem writtenOutPacketsDecode : Obligations.WrittenOutPacketsDecode :=
  ⟨rfl, rfl, rfl, rfl, rfl, rfl, rfl, rfl, rfl⟩

end

section
/-! What an operation that completes does (R62): one case for each way, so that a statement about all operations is one case
split. -/

namespace Sys2Proof.Machine

/-- What operation `i` makes of the state `s`, by the ways it can complete. -/
inductive Does : Instr → State → State → Prop
  | reset (s : State) : Does .reset s s.resetBlock
  | irqAccepted {s : State} (h : s.mode = .enabled) : Does .irq s (s.setLatch true)
  | irqLost {s : State} (h : s.mode = .disabled) : Does .irq s s
  | setmode (origin : Origin) (new : Mode) (s : State) :
      Does (.setmode origin Config.sensorIndex (modeByte new)) s (s.changeMode origin new)
  | cmdSetMode (new : Mode) (s : State) : Does (.cmdSetMode new) s (s.changeMode .command new)
  | pollIdle {s : State} (h : s.latch = false) : Does .poll s s
  | pollBusy {s : State} (h : s.latch = true) : Does .poll s (s.setLatch false).pollSequence
  | lclr (s : State) : Does .lclr s ((s.setLatch false).setPending s.latch)
  | rdsens (s : State) : Does .rdsens s s.readSensor
  | shadow (s : State) : Does .shadow s s.shadowCopy
  | ema (s : State) : Does .ema s s.emaUpdate
  | fclr (s : State) : Does .fclr s s.clearFilter
  | fstep (s : State) : Does .fstep s s.filterStep
  | encmd (s : State) : Does .encmd s s.buildMotion
  | encmm (new : Mode) (s : State) : Does (.encmm new) s (s.buildMode new)
  | gate {kind : EventKind} {payload : List Byte} {f : EventFields} (h : fieldsOf kind payload = some f) (s : State) :
      Does (.gate kind payload) s (s.offer kind payload f)
  | put16le {index : Nat} (h : index + 1 < Config.mdLen) (v : S16) (s : State) :
      Does (.put16le index v) s (s.setPay (s.pay.put16le index v))
  | enable (s : State) : Does .enable s s.enablePath
  | disable (s : State) : Does .disable s s.disablePath
  | evtMotionData (v : Sample) (s : State) : Does (.evtMotionData v) s (s.emit .motionData (motionPayload v))
  | evtMotionMode (m : Mode) (s : State) : Does (.evtMotionMode m) s (s.emit .modeChange (modePayload m))

/-- An operation that completes does so in one of these ways. -/
theorem does_of_exec {i : Instr} {s t : State} (he : exec i s = .next t) : Does i s t := by
  cases i with
  | reset => cases he; exact .reset s
  | irq =>
    cases hm : s.mode with
    | disabled => rw [exec_irq_of_disabled hm] at he; cases he; exact .irqLost hm
    | enabled => rw [exec_irq_of_enabled hm] at he; cases he; exact .irqAccepted hm
  | setmode o id m =>
    rcases requestMode_cases o id m s with ⟨new, rfl, rfl, hr⟩ | ⟨-, hr⟩ <;> rw [exec_setmode, hr] at he <;> cases he
    exact .setmode o new s
  | cmdSetMode m => rw [exec_cmdSetMode] at he; cases he; exact .cmdSetMode m s
  | poll =>
    cases he
    cases hl : s.latch with
    | false => rw [State.pollPass_idle hl]; exact .pollIdle hl
    | true => rw [State.pollPass_busy hl]; exact .pollBusy hl
  | lclr => rw [exec_lclr] at he; cases he; exact .lclr s
  | rdsens => cases he; exact .rdsens s
  | shadow => cases he; exact .shadow s
  | ema => cases he; exact .ema s
  | fclr => cases he; exact .fclr s
  | fstep => cases he; exact .fstep s
  | encmd => cases he; exact .encmd s
  | encmm new => cases he; exact .encmm new s
  | gate kind payload =>
    rcases execGate_cases kind payload s with ⟨f, hf, hg⟩ | ⟨-, hg⟩ <;> rw [exec_gate, hg] at he <;> cases he
    exact .gate hf s
  | put16le index v =>
    rcases execPut16le_cases index v s with ⟨hi, hp⟩ | ⟨-, hp⟩ <;> rw [exec_put16le, hp] at he <;> cases he
    exact .put16le hi v s
  | enable => cases he; exact .enable s
  | disable => cases he; exact .disable s
  | evtMotionData v => cases he; exact .evtMotionData v s
  | evtMotionMode m => cases he; exact .evtMotionMode m s

end Sys2Proof.Machine
end

section
/-! What the composite operations leave alone and what they add to the logs, one lemma for each field that a statement about
all operations asks for. -/

namespace Sys2Proof.Machine

/-! ### Frames -/

/-- Any function of the state that reads neither RAW, the sensor's answers nor the draw counter is the same after a burst
read. -/
theorem State.readSensor_get {β : Type} (g : State → β) (s : State) :
    g { s.readSensor with raw := s.raw, sensor := s.sensor, draws := s.draws } = g s :=
  congrArg g s.readSensor_frame

/-- Any function of the state that does not read what a sequence writes is the same after one. -/
theorem State.pollSequence_get {β : Type} (g : State → β) (s : State) :
    g { s.pollSequence with raw := s.raw, filt := s.filt, shad := s.shad, pay := s.pay, tx := s.tx, sensor := s.sensor,
                            observer := s.observer, draws := s.draws } = g s :=
  congrArg g s.pollSequence_frame.2

/-- SETMODE touches FILT, the flags, CTL, and what the event touches (R72). -/
theorem State.changeMode_frame (s : State) (origin : Origin) (new : Mode) :
    { s.changeMode origin new with filt := s.filt, latch := s.latch, mode := s.mode, ctl := s.ctl, mpay := s.mpay,
                                   tx := s.tx, observer := s.observer, draws := s.draws } = s := by
  rcases s.changeMode_cases origin new with ⟨-, h⟩ | ⟨-, h | h⟩ <;> rw [h]
  · cases new <;> rfl
  · have hannounce := (s.transition new).announce_frame new
    have h := congrArg (fun u : State => { u with filt := s.filt, latch := s.latch, mode := s.mode, ctl := s.ctl }) hannounce
    cases new <;> exact h

/-- Any function of the state that does not read what SETMODE writes is the same after it. -/
theorem State.changeMode_get {β : Type} (g : State → β) (s : State) (origin : Origin) (new : Mode) :
    g { s.changeMode origin new with filt := s.filt, latch := s.latch, mode := s.mode, ctl := s.ctl, mpay := s.mpay,
                                     tx := s.tx, observer := s.observer, draws := s.draws } = g s :=
  congrArg g (s.changeMode_frame origin new)

/-! ### Registers and flags -/

theorem State.readSensor_shad (s : State) : s.readSensor.shad = s.shad := State.readSensor_get State.shad s
theorem State.readSensor_truncMode (s : State) : s.readSensor.truncMode = s.truncMode :=
  State.readSensor_get State.truncMode s
theorem State.offer_raw (s : State) (kind : EventKind) (payload : List Byte) (f : EventFields) :
    (s.offer kind payload f).raw = s.raw := State.offer_get State.raw s kind payload f
theorem State.offer_shad (s : State) (kind : EventKind) (payload : List Byte) (f : EventFields) :
    (s.offer kind payload f).shad = s.shad := State.offer_get State.shad s kind payload f
theorem State.offer_truncMode (s : State) (kind : EventKind) (payload : List Byte) (f : EventFields) :
    (s.offer kind payload f).truncMode = s.truncMode := State.offer_get State.truncMode s kind payload f
theorem State.offer_ctl (s : State) (kind : EventKind) (payload : List Byte) (f : EventFields) :
    (s.offer kind payload f).ctl = s.ctl := State.offer_get State.ctl s kind payload f
theorem State.changeMode_raw (s : State) (origin : Origin) (new : Mode) : (s.changeMode origin new).raw = s.raw :=
  State.changeMode_get State.raw s origin new
theorem State.changeMode_shad (s : State) (origin : Origin) (new : Mode) : (s.changeMode origin new).shad = s.shad :=
  State.changeMode_get State.shad s origin new
theorem State.changeMode_truncMode (s : State) (origin : Origin) (new : Mode) :
    (s.changeMode origin new).truncMode = s.truncMode := State.changeMode_get State.truncMode s origin new

theorem State.announce_raw (s : State) (new : Mode) : (s.announce new).raw = s.raw := State.announce_get State.raw s new
theorem State.announce_filt (s : State) (new : Mode) : (s.announce new).filt = s.filt := State.announce_get State.filt s new
theorem State.announce_shad (s : State) (new : Mode) : (s.announce new).shad = s.shad := State.announce_get State.shad s new
theorem State.transition_raw (s : State) (new : Mode) : (s.transition new).raw = s.raw := by cases new <;> rfl
theorem State.transition_shad (s : State) (new : Mode) : (s.transition new).shad = s.shad := by cases new <;> rfl

/-- A request for Disabled leaves FILT as it is (R74). -/
theorem State.changeMode_disabled_filt (s : State) (origin : Origin) : (s.changeMode origin .disabled).filt = s.filt := by
  rcases s.changeMode_cases origin .disabled with ⟨-, h⟩ | ⟨-, h | h⟩ <;> rw [h]
  · rfl
  · exact State.announce_filt (s.transition .disabled) .disabled

theorem State.pollSequence_mode (s : State) : s.pollSequence.mode = s.mode := State.pollSequence_get State.mode s
theorem State.pollSequence_latch (s : State) : s.pollSequence.latch = s.latch := State.pollSequence_get State.latch s
theorem State.pollSequence_ctl (s : State) : s.pollSequence.ctl = s.ctl := State.pollSequence_get State.ctl s
theorem State.pollSequence_truncMode (s : State) : s.pollSequence.truncMode = s.truncMode :=
  State.pollSequence_get State.truncMode s

/-- A sequence leaves one burst read in RAW (R85, R120). -/
theorem State.pollSequence_raw (s : State) : s.pollSequence.raw = s.readSensor.raw :=
  State.offer_raw s.readSensor.filterStep.buildMotion _ _ _

/-- A sequence leaves the old FILT in SHAD (R99, R120). -/
theorem State.pollSequence_shad (s : State) : s.pollSequence.shad = wroteLanes (regValues s.filt) := by
  rw [← State.readSensor_filt]
  exact State.offer_shad s.readSensor.filterStep.buildMotion _ _ _

/-! ### The filter's lanes -/

/-- The blend is three shadows and one raw value, divided by 4 (R92). -/
theorem emaInt_eq (mode : TruncMode) (prev raw : Int) : emaInt mode prev raw = trunc4 mode (3 * prev + raw) := by
  rw [emaInt]
  congr 1
  ring

theorem State.filterStep_shadVal (s : State) (k : Fin 6) : s.filterStep.shadVal k = s.filtVal k := s.shadowCopy_shadVal k

theorem State.filterStep_filtVal (s : State) (k : Fin 6) :
    s.filterStep.filtVal k = emaInt s.truncMode (s.filtVal k) (s.rawVal k) := by
  rw [State.filterStep, State.emaUpdate_filtVal, State.shadowCopy_shadVal]
  rfl

/-- What a sequence leaves in each lane of FILT: the blend of its old value and what was read (R92, R120). -/
theorem State.pollSequence_filtVal (s : State) (k : Fin 6) :
    s.pollSequence.filtVal k = emaInt s.truncMode (s.filtVal k) (s.pollSequence.rawVal k) := by
  have hfilt : s.pollSequence.filtVal k = s.readSensor.filterStep.filtVal k :=
    congrArg (fun r : Lanes Reg => (r.get k).value.toInt) s.pollSequence_frame.1
  have hraw : s.pollSequence.rawVal k = s.readSensor.rawVal k :=
    congrArg (fun r : Lanes Reg => (r.get k).value.toInt) s.pollSequence_raw
  have hold : s.readSensor.filtVal k = s.filtVal k :=
    congrArg (fun r : Lanes Reg => (r.get k).value.toInt) s.readSensor_filt
  rw [hfilt, hraw, State.filterStep_filtVal, hold, s.readSensor_truncMode]

/-! ### What is logged -/

theorem State.transition_tx (s : State) (new : Mode) : (s.transition new).tx = s.tx := by cases new <;> rfl

theorem State.transition_observer (s : State) (new : Mode) : (s.transition new).observer = s.observer := by
  cases new <;> rfl

/-- A transition signals after what was signalled before (R20, R73, R74). -/
theorem State.transition_ctl (s : State) (new : Mode) : ∃ more, (s.transition new).ctl = s.ctl ++ more := by
  cases new with
  | disabled => exact ⟨[.sensorSleep true, .irqPath false], List.append_assoc _ _ _⟩
  | enabled => exact ⟨[.irqPath true, .sensorSleep false], List.append_assoc _ _ _⟩

/-- SETMODE signals after what was signalled before (R20). -/
theorem State.changeMode_ctl (s : State) (origin : Origin) (new : Mode) :
    ∃ more, (s.changeMode origin new).ctl = s.ctl ++ more := by
  rcases s.changeMode_cases origin new with ⟨-, h⟩ | ⟨-, h | h⟩ <;> rw [h]
  · exact ⟨[], (List.append_nil _).symm⟩
  · exact s.transition_ctl new
  · obtain ⟨more, hmore⟩ := s.transition_ctl new
    exact ⟨more, (State.announce_get State.ctl (s.transition new) new).trans hmore⟩

/-- The mode-change event is sent once or not at all, and surely sent with no observer (R77, R115). -/
theorem State.announce_tx (s : State) (new : Mode) :
    ((s.announce new).tx = s.tx ∨ (s.announce new).tx = s.tx ++ [(.modeChange, modePayload new)]) ∧
      (s.observer = .absent → (s.announce new).tx = s.tx ++ [(.modeChange, modePayload new)]) := by
  obtain ⟨honce, habsent, -⟩ := (s.buildMode new).offer_frame .modeChange (modePayload new) (modeFields new)
  exact ⟨honce, habsent⟩

/-- SETMODE sends the mode-change event once or not at all (R77). -/
theorem State.changeMode_tx (s : State) (origin : Origin) (new : Mode) :
    (s.changeMode origin new).tx = s.tx ∨ (s.changeMode origin new).tx = s.tx ++ [(.modeChange, modePayload new)] := by
  rcases s.changeMode_cases origin new with ⟨-, h⟩ | ⟨-, h | h⟩ <;> rw [h]
  · exact .inl rfl
  · exact .inl (s.transition_tx new)
  · have hsent := ((s.transition new).announce_tx new).1
    rw [s.transition_tx] at hsent
    exact hsent

/-- A commanded SETMODE sends nothing (R72, R77). -/
theorem State.changeMode_command_tx (s : State) (new : Mode) : (s.changeMode .command new).tx = s.tx := by
  by_cases h : new = s.mode
  · rw [h, State.changeMode_same]
  · rw [State.changeMode_command h, State.transition_tx]

theorem State.readSensor_tx (s : State) : s.readSensor.tx = s.tx := State.readSensor_get State.tx s
theorem State.readSensor_ctl (s : State) : s.readSensor.ctl = s.ctl := State.readSensor_get State.ctl s

/-- A sequence sends the payload of the new FILT once or not at all, and surely once with no observer (R115, R120). -/
theorem State.pollSequence_tx (s : State) :
    (s.pollSequence.tx = s.tx ∨ s.pollSequence.tx = s.tx ++ [(.motionData, s.pollSequence.pay.bytes)]) ∧
      (s.observer = .absent → s.pollSequence.tx = s.tx ++ [(.motionData, s.pollSequence.pay.bytes)]) := by
  obtain ⟨honce, habsent, -⟩ := s.readSensor.filterStep.buildMotion.offer_frame .motionData
    (motionPayload (regValues s.readSensor.filterStep.filt)) (motionFields (regValues s.readSensor.filterStep.filt))
  rw [State.pollSequence_pay, payOf_bytes, ← State.readSensor_tx s]
  exact ⟨honce, fun h => habsent (s.readSensor_observer.trans h)⟩

/-! ### Whether an observer is registered (R25) -/

theorem State.changeMode_absent_iff (s : State) (origin : Origin) (new : Mode) :
    (s.changeMode origin new).observer = .absent ↔ s.observer = .absent := by
  rcases s.changeMode_cases origin new with ⟨-, h⟩ | ⟨-, h | h⟩ <;> rw [h]
  · rw [s.transition_observer]
  · rw [← s.transition_observer new]
    exact ((s.transition new).buildMode new).offer_absent_iff .modeChange (modePayload new) (modeFields new)

theorem State.pollSequence_absent_iff (s : State) : s.pollSequence.observer = .absent ↔ s.observer = .absent := by
  rw [← s.readSensor_observer]
  exact s.readSensor.filterStep.buildMotion.offer_absent_iff _ _ _

end Sys2Proof.Machine
end

section
/-! Steps (R62, R38, R45; entries 7, 18): an operation performed whole or begun, and what enters an operation in progress. -/

namespace Sys2Proof.Machine

/-- An operation is performed by its meaning where the turn does not ask for parts, or it has none (entry 18). -/
theorem perform_eq_exec {i : Instr} {turn : Turn} {s : State} (h : turn ≠ .parts ∨ begin i s = none) :
    perform i turn s = exec i s := by
  rcases perform_cases i turn s with he | ⟨u, parts, ht, hb, -⟩
  · exact he
  · rcases h with h | h
    · exact absurd ht h
    · rw [hb] at h; cases h

/-- An operation that has parts begins where the turn asks for them (entry 18). -/
theorem perform_eq_begun {i : Instr} {turn : Turn} {s t : State} {parts : List Task} (ht : turn = .parts)
    (hb : begin i s = some (t, parts)) : perform i turn s = .next (t.pushInside parts) := by
  subst ht
  simp [perform, hb]

/-- Between operations, a top-level request is performed without its packet and its turn (R62; entries 7, 18). -/
theorem step_of_request {s : State} {p : Packet} {rest : List Packet} {i : Instr} (hi : s.inside = [])
    (hq : s.input = p :: rest) (hd : decode p = .ok i) (ht : isTopLevel i = true) :
    step s = perform i s.turn (s.setInput rest).nextTurn := by
  rw [step_of_idle hi, takeRequest_ok hq hd, ht]
  rfl

/-- Between operations, a micro-operation asked for is refused (R62). -/
theorem step_of_microRequest {s : State} {p : Packet} {rest : List Packet} {i : Instr} (hi : s.inside = [])
    (hq : s.input = p :: rest) (hd : decode p = .ok i) (ht : isTopLevel i = false) :
    step s = .refused .onlyInsideAnOperation := by
  rw [step_of_idle hi, takeRequest_ok hq hd, ht]
  rfl

/-- The rest of POLL is its sequence, if LCLR found a sample pending, and else nothing (R120). -/
theorem performTask_pollRest (turn : Turn) (s : State) :
    performTask .pollRest turn s = .next (s.pushInside
      (if s.pending = true then [.op .rdsens, .op .fstep, .op .encmd, .gateBuilt .motionData] else [])) := by
  cases h : s.pending
  · simp only [performTask, h]; rfl
  · simp only [performTask, h]; rfl

/-- Inside an operation, on the outside's turn, a step lets an IRQ or a reset in (R38, R45). -/
theorem step_of_wait {s : State} (hi : s.inside ≠ []) (ht : s.turn = .outside) : step s = takeInside s := by
  obtain ⟨task, rest, hi⟩ := List.exists_cons_of_ne_nil hi
  exact step_of_outside hi ht

/-- Only an IRQ and a reset enter an operation in progress (R38). -/
theorem entersAnywhere_iff {i : Instr} : entersAnywhere i = true ↔ i = .reset ∨ i = .irq := by
  cases i <;> simp [entersAnywhere]

/-- What may enter takes effect without its packet and its turn. -/
theorem takeInside_of_enters {s : State} {i : Instr} {rest : List Packet} (hq : s.input = encode i :: rest)
    (hi : entersAnywhere i = true) : takeInside s = exec i (s.setInput rest).nextTurn := by
  have hd : decode (encode i) = .ok i := by rcases entersAnywhere_iff.1 hi with rfl | rfl <;> rfl
  simp [takeInside, State.nextPacket_cons hq, hd, hi]

/-- IRQ changes LATCH at most (R70, R71). -/
theorem exec_irq_frame (s : State) : ∃ t, exec .irq s = .next t ∧ { t with latch := s.latch } = s := by
  cases hm : s.mode with
  | disabled => exact ⟨s, exec_irq_of_disabled hm, rfl⟩
  | enabled => exact ⟨s.setLatch true, exec_irq_of_enabled hm, rfl⟩

end Sys2Proof.Machine

open Sys2Proof Sys2Proof.Machine

/-- Settles O1, clause by clause: a request or a task is performed whole or begun, as the turn and its parts say. -/
theorem stepPerformsRequestedOperation : Obligations.StepPerformsRequestedOperation := by
  refine ⟨?request, ?undecodable, ?idle, ?task, ?pollRest, ?gateBuilt⟩
  case request =>
    intro s p rest i hi hq hd ht
    refine ⟨(decodedPacketIsTheEncoding p i hd).1, fun h => ?_, fun t parts hturn hb => ?_⟩
    · rw [step_of_request hi hq hd ht]
      exact perform_eq_exec h
    · rw [step_of_request hi hq hd ht]
      exact perform_eq_begun hturn hb
  case undecodable =>
    intro s p rest e hi hq hd
    rw [step_of_idle hi, takeRequest_error hq hd]
  case idle =>
    intro s hi hq
    rw [step_of_idle hi, takeRequest_nil hq]
  case task =>
    intro s i rest hi ht
    rw [step_of_task hi ht]
    refine ⟨fun h => perform_eq_exec (h.imp_left fun hw => ?_), fun t parts hturn hb => perform_eq_begun hturn hb⟩
    rw [hw]
    decide
  case pollRest =>
    intro s rest hi ht
    rw [step_of_task hi ht]
    exact performTask_pollRest _ _
  case gateBuilt =>
    intro s kind rest hi
    have hbuilt : ((s.setInside rest).nextTurn).built kind = s.built kind := by cases kind <;> rfl
    constructor
    · intro hw
      rw [step_of_task hi (by rw [hw]; decide), performTask, hbuilt]
      exact perform_eq_exec (.inl (by rw [hw]; decide))
    · intro t parts hturn hb
      rw [step_of_task hi (by rw [hturn]; decide), performTask, hbuilt]
      exact perform_eq_begun hturn hb

/-- Settles O2: a micro-operation's request is refused or passed over, and what a step performs or begins otherwise with
nothing in progress is a top-level operation. -/
theorem microOperationsHappenOnlyInside : Obligations.MicroOperationsHappenOnlyInside := by
  refine ⟨fun s p rest i hq hd ht => ⟨fun hi => step_of_microRequest hi hq hd ht, fun hi hturn => ?passed⟩, ?begun⟩
  case passed =>
    rw [step_of_wait hi hturn]
    rcases takeInside_cases s with ⟨p', rest', j, hq', hd', hj, -⟩ | h
    · obtain ⟨rfl, rfl⟩ := List.cons.inj (hq.symm.trans hq')
      obtain rfl := Except.ok.inj (hd.symm.trans hd')
      rcases entersAnywhere_iff.1 hj with rfl | rfl <;> cases ht
    · exact h
  case begun =>
    intro s t hi hs
    cases hq : s.input with
    | nil => rw [step_of_idle hi, takeRequest_nil hq] at hs; cases hs; exact .inl rfl
    | cons p rest =>
      cases hd : decode p with
      | error e => rw [step_of_idle hi, takeRequest_error hq hd] at hs; cases hs
      | ok i =>
        cases ht : isTopLevel i
        · rw [step_of_microRequest hi hq hd ht] at hs; cases hs
        · refine .inr ⟨p, rest, i, rfl, hd, ht, ?_⟩
          rw [step_of_request hi hq hd ht] at hs
          rcases perform_cases i s.turn (s.setInput rest).nextTurn with he | ⟨u, parts, hturn, hb, he⟩
          · exact .inl (he.symm.trans hs)
          · rw [he] at hs
            cases hs
            obtain ⟨rfl, -, hparts⟩ := begin_topLevel ht hb
            have hinside : (((s.setInput rest).nextTurn).pushInside parts).inside = parts := by simp [hi]
            refine .inr ⟨hturn, by rw [hinside]; exact hparts, ?_⟩
            rw [hinside]
            refine hb.trans ?_
            rw [← hi]
            rfl

/-- Settles O3: an IRQ and a reset are what enters an operation in progress, and their packets are the only ones that decode
to them. -/
theorem waitingOperationAdmitsOnlyInterrupts : Obligations.WaitingOperationAdmitsOnlyInterrupts := by
  refine ⟨fun s rest hi ht hq => ?irq, fun s rest hi ht hq => ?reset, fun s hi ht hq => ?other⟩
  case irq =>
    obtain ⟨t, he, hframe⟩ := exec_irq_frame (s.setInput rest).nextTurn
    have hinside : t.inside = s.inside := by have h := congrArg State.inside hframe; exact h
    refine ⟨t, ?_, he, hinside⟩
    rw [step_of_wait hi ht, takeInside_of_enters hq rfl, he]
  case reset =>
    refine ⟨_, ?_, exec_reset _, rfl⟩
    rw [step_of_wait hi ht, takeInside_of_enters hq rfl]
    exact exec_reset _
  case other =>
    rw [step_of_wait hi ht]
    rcases takeInside_cases s with ⟨p, rest, i, hp, hd, henters, -⟩ | h
    · obtain ⟨-, rfl⟩ := decodedPacketIsTheEncoding p i hd
      obtain ⟨hirq, hreset⟩ := hq rest
      rcases entersAnywhere_iff.1 henters with rfl | rfl
      · exact absurd hp hreset
      · exact absurd hp hirq
    · exact h

end

section
/-! The machine's invariant: each operation keeps it, so does the beginning of an operation by its parts, and so does every
step. -/

namespace Sys2Proof.Machine

/-! ### Each update of the state keeps the invariant -/

theorem Inv.setRaw {s : State} (h : Inv s) (r : Lanes Reg) : Inv (s.setRaw r) := { h with }
theorem Inv.setShad {s : State} (h : Inv s) (r : Lanes Reg) : Inv (s.setShad r) := { h with }
theorem Inv.setPending {s : State} (h : Inv s) (b : Bool) : Inv (s.setPending b) := { h with }
theorem Inv.setSensor {s : State} (h : Inv s) (a : List Sample) : Inv (s.setSensor a) := { h with }
theorem Inv.setObserver {s : State} (h : Inv s) (o : Observer) : Inv (s.setObserver o) := { h with }
theorem Inv.setInput {s : State} (h : Inv s) (ps : List Packet) : Inv (s.setInput ps) := { h with }
theorem Inv.nextDraw {s : State} (h : Inv s) : Inv s.nextDraw := { h with }
theorem Inv.nextTurn {s : State} (h : Inv s) : Inv s.nextTurn := { h with }
theorem Inv.setFilt {s : State} (h : Inv s) (v : Sample) : Inv (s.setFilt (wroteLanes v)) :=
  { h with filtReady := fun _ => allWritten_wroteLanes v }
theorem Inv.setPay {s : State} (h : Inv s) {m : Memory} (hm : m.wf Config.mdLen = true) : Inv (s.setPay m) :=
  { h with payForm := hm }
theorem Inv.setMpay {s : State} (h : Inv s) {m : Memory} (hm : m.wf Config.mmLen = true) : Inv (s.setMpay m) :=
  { h with mpayForm := hm }
theorem Inv.setInside {s : State} (h : Inv s) {ts : List Task} (ho : inOrder ts = true) : Inv (s.setInside ts) :=
  { h with insideOrdered := ho }

/-- LATCH may be cleared at any time. -/
theorem Inv.clearLatch {s : State} (h : Inv s) : Inv (s.setLatch false) :=
  { h with filtReady := fun hl => h.filtReady (hl.imp_right (by simp)) }

/-- LATCH may be set while the interrupt path is open (R24, R158). -/
theorem Inv.setLatch_of_enabled {s : State} (h : Inv s) (hm : s.mode = .enabled) : Inv (s.setLatch true) :=
  { h with filtReady := fun _ => h.filtReady (.inl hm) }

/-- What is sent must be a payload of its kind (R60, R61). -/
theorem Inv.emit {s : State} (h : Inv s) {kind : EventKind} {payload : List Byte} (hp : payloadFits kind payload = true) :
    Inv (s.emit kind payload) := by
  refine { h with sentFits := fun e he => ?_ }
  rcases List.mem_append.1 he with hold | hnew
  · exact h.sentFits e hold
  · rw [List.mem_singleton.1 hnew]; exact hp

/-! ### The collaborators, the gate and the sequence -/

theorem Inv.observe {s : State} (h : Inv s) (f : EventFields) : Inv (s.observe f).2 := by
  unfold State.observe
  split
  · exact h
  · exact h
  · exact h.setObserver _
  · exact h.nextDraw

theorem Inv.readSensor {s : State} (h : Inv s) : Inv s.readSensor := by
  unfold State.readSensor State.burstRead
  split
  · exact (h.setSensor _).setRaw _
  · exact h.nextDraw.setRaw _

theorem Inv.offer {s : State} (h : Inv s) {kind : EventKind} {payload : List Byte} (hp : payloadFits kind payload = true)
    (f : EventFields) : Inv (s.offer kind payload f) := by
  unfold State.offer
  cases (s.observe f).1
  · exact (h.observe f).emit hp
  · exact h.observe f

theorem Inv.buildMotion {s : State} (h : Inv s) : Inv s.buildMotion := h.setPay (payOf_wf _)

theorem Inv.buildMode {s : State} (h : Inv s) (new : Mode) : Inv (s.buildMode new) := h.setMpay (mpayOf_wf new)

theorem Inv.pollSequence {s : State} (h : Inv s) : Inv s.pollSequence :=
  ((h.readSensor.setShad _).setFilt _).buildMotion.offer (payloadFits_motionPayload _) _

/-! ### The Mode Controller -/

/-- After ENABLE, the levels last signalled are those of Enabled, whatever was signalled before (R19, R73). -/
theorem Inv.enablePath {s : State} (h : Inv s) : Inv s.enablePath :=
  { h with
    filtReady := fun _ => allWritten_wroteLanes _
    pathLogged := by simp [State.irqPathOpen, State.enablePath, lastEvent, State.ie]
    sleepLogged := by simp [State.sensorAsleep, State.enablePath, lastEvent, State.sleepLevel] }

/-- After DISABLE, the levels last signalled are those of Disabled, whatever was signalled before (R19, R74). -/
theorem Inv.disablePath {s : State} (h : Inv s) : Inv s.disablePath :=
  { h with
    filtReady := by
      rintro (hm | hl)
      · cases hm
      · exact h.filtReady (.inr hl)
    pathLogged := by simp [State.irqPathOpen, State.disablePath, lastEvent, State.ie]
    sleepLogged := by simp [State.sensorAsleep, State.disablePath, lastEvent, State.sleepLevel] }

theorem Inv.transition {s : State} (h : Inv s) (new : Mode) : Inv (s.transition new) := by
  cases new
  · exact h.disablePath
  · exact h.enablePath

theorem Inv.announce {s : State} (h : Inv s) (new : Mode) : Inv (s.announce new) :=
  (h.buildMode new).offer (payloadFits_modePayload new) _

theorem Inv.changeMode {s : State} (h : Inv s) (origin : Origin) (new : Mode) : Inv (s.changeMode origin new) := by
  rcases s.changeMode_cases origin new with ⟨-, hc⟩ | ⟨-, hc | hc⟩ <;> rw [hc]
  · exact h
  · exact h.transition new
  · exact (h.transition new).announce new

/-- After RESET nothing is in progress, sent, signalled or pending (R150). -/
theorem Inv.resetBlock (s : State) : Inv s.resetBlock where
  payForm := rfl
  mpayForm := rfl
  filtReady := by rintro (h | h) <;> cases h
  sentFits _ he := absurd he List.not_mem_nil
  pathLogged := rfl
  sleepLogged := rfl
  insideOrdered := rfl

/-! ### Operations -/

/-- Every operation that completes keeps the invariant, micro-operations on their own included. -/
theorem exec_keeps_inv {i : Instr} {s t : State} (h : Inv s) (he : exec i s = .next t) : Inv t := by
  cases does_of_exec he with
  | reset => exact .resetBlock s
  | irqAccepted hm => exact h.setLatch_of_enabled hm
  | irqLost => exact h
  | setmode origin new => exact h.changeMode origin new
  | cmdSetMode new => exact h.changeMode .command new
  | pollIdle => exact h
  | pollBusy => exact h.clearLatch.pollSequence
  | lclr => exact h.clearLatch.setPending _
  | rdsens => exact h.readSensor
  | shadow => exact h.setShad _
  | ema => exact h.setFilt _
  | fclr => exact h.setFilt _
  | fstep => exact (h.setShad _).setFilt _
  | encmd => exact h.buildMotion
  | encmm new => exact h.buildMode new
  | gate hf => exact h.offer (by rw [← fieldsOf_isSome, hf]; rfl) _
  | put16le hi v => exact h.setPay (Memory.wf_put16le v hi h.payForm)
  | enable => exact h.enablePath
  | disable => exact h.disablePath
  | evtMotionData v => exact h.emit (payloadFits_motionPayload v)
  | evtMotionMode m => exact h.emit (payloadFits_modePayload m)

/-! ### Beginnings and steps -/

/-- What beginning an operation changes keeps the invariant: ENCMD's constant bytes, or the observer's answer. -/
theorem begin_keeps_inv {i : Instr} {s t : State} {parts : List Task} (h : Inv s) (hb : begin i s = some (t, parts)) :
    Inv t := by
  cases i with
  | poll => cases hb; exact h
  | fstep => cases hb; exact h
  | encmd => cases hb; exact h.setPay rfl
  | setmode o id m => obtain ⟨rfl, -⟩ := beginMode_spec hb; exact h
  | cmdSetMode m => obtain ⟨rfl, -⟩ := beginMode_spec (request := some m) hb; exact h
  | gate kind payload => obtain ⟨-, -, f, -, rfl, -⟩ := begin_gate hb; exact h.observe f
  | _ => cases hb

/-- An operation performed whole or begun keeps the invariant, if its parts go on in order into what is left around it. -/
theorem perform_keeps_inv {i : Instr} {turn : Turn} {s t : State} (h : Inv s)
    (ho : ∀ u parts, begin i s = some (u, parts) → inOrder (parts ++ u.inside) = true)
    (hp : perform i turn s = .next t) : Inv t := by
  rcases perform_cases i turn s with he | ⟨u, parts, -, hb, he⟩ <;> rw [he] at hp
  · exact exec_keeps_inv h hp
  · cases hp; exact (begin_keeps_inv h hb).setInside (ho u parts hb)

/-- Between operations, taking what is asked for keeps the invariant. -/
theorem takeRequest_keeps_inv {s t : State} (h : Inv s) (hi : s.inside = []) (hs : takeRequest s = .next t) : Inv t := by
  cases hq : s.input with
  | nil => rw [takeRequest_nil hq] at hs; cases hs; exact h
  | cons p rest =>
    cases hd : decode p with
    | error e => rw [takeRequest_error hq hd] at hs; cases hs
    | ok i =>
      rw [takeRequest_ok hq hd] at hs
      cases ht : isTopLevel i <;> rw [ht] at hs
      · cases hs
      · refine perform_keeps_inv (h.setInput rest).nextTurn (fun u parts hb => ?_) hs
        obtain ⟨rfl, hparts, -⟩ := begin_topLevel ht hb
        rw [State.nextTurn_inside, State.setInput_inside, hi, List.append_nil]
        exact hparts

/-- On the outside's turn, what enters an operation in progress keeps the invariant. -/
theorem takeInside_keeps_inv {s t : State} (h : Inv s) (hs : takeInside s = .next t) : Inv t := by
  rcases takeInside_cases s with ⟨p, rest, i, -, -, -, he⟩ | he <;> rw [he] at hs
  · exact exec_keeps_inv (h.setInput rest).nextTurn hs
  · cases hs; exact h.nextTurn

/-- GATE of what was built is the last task of every order (R120, R72). -/
theorem inOrder_gateBuilt {kind : EventKind} {rest : List Task} (h : inOrder (.gateBuilt kind :: rest) = true) :
    rest = [] := by
  rcases inOrder_cons.1 h with ⟨hr, -⟩ | ⟨_, _, -, hb, -⟩
  · exact hr
  · cases hb

/-- The rest of POLL is the last task of every order (R120). -/
theorem inOrder_pollRest {rest : List Task} (h : inOrder (.pollRest :: rest) = true) : rest = [] := by
  rcases inOrder_cons.1 h with ⟨hr, -⟩ | ⟨_, _, -, hb, -⟩
  · exact hr
  · cases hb

/-- The next task of an operation in progress keeps the invariant. -/
theorem performTask_keeps_inv {task : Task} {turn : Turn} {s t : State} (h : Inv s)
    (ho : inOrder (task :: s.inside) = true) (hp : performTask task turn s = .next t) : Inv t := by
  cases task with
  | op i =>
    refine perform_keeps_inv h (fun u parts hb => ?_) hp
    obtain ⟨hu, hparts⟩ := begin_micro ho hb
    rw [hu]
    exact hparts
  | pollRest =>
    simp only [performTask] at hp
    cases hb : s.pending <;> rw [hb] at hp <;> cases hp
    · exact h
    · refine h.setInside ?_
      rw [inOrder_pollRest ho]
      rfl
  | gateBuilt kind =>
    refine perform_keeps_inv h (fun u parts hb => ?_) hp
    obtain ⟨hu, hparts, -⟩ := begin_gate hb
    rw [hu, inOrder_gateBuilt ho, List.append_nil]
    exact hparts

/-- Every step keeps the invariant: it takes a request, lets one in, or performs the next task. -/
theorem step_keeps_inv {s t : State} (h : Inv s) (hs : step s = .next t) : Inv t := by
  cases hi : s.inside with
  | nil => rw [step_of_idle hi] at hs; exact takeRequest_keeps_inv h hi hs
  | cons task rest =>
    by_cases ht : s.turn = .outside
    · rw [step_of_outside hi ht] at hs; exact takeInside_keeps_inv h hs
    · rw [step_of_task hi ht] at hs
      have ho : inOrder (task :: rest) = true := hi ▸ h.insideOrdered
      exact performTask_keeps_inv (h.setInside (inOrder_tail ho)).nextTurn ho hs

end Sys2Proof.Machine

open Sys2Proof Sys2Proof.Machine

/-- Settles O10, by what each operation, each beginning and each kind of step does to the invariant. -/
theorem everyStepKeepsInvariant : Obligations.EveryStepKeepsInvariant := fun _ _ => step_keeps_inv

/-- Settles O11: the reset state is what RESET leaves at the first draw. -/
theorem resetStateMeetsInvariant : Obligations.ResetStateMeetsInvariant :=
  Inv.resetBlock { State.reset with draws := 0 }

end

section
/-! What no register has been given reaches nothing (R24): an operation that reads no register commutes with a change of the
registers' contents, and POLL reads FILT only where the invariant has it written. -/

namespace Sys2Proof.Machine

/-- The state with other registers (R10). -/
def State.setRegs (s : State) (raw filt shad : Lanes Reg) : State := { s with raw := raw, filt := filt, shad := shad }

/-- Two register groups hold the same where they hold anything (R24). -/
def sameWhereWritten (a b : Lanes Reg) : Prop := ∀ k, (a.get k).sameIfWritten (b.get k)

@[simp] theorem sameWhereWritten_refl (a : Lanes Reg) : sameWhereWritten a a := fun _ => ⟨rfl, fun _ => rfl⟩

/-- A group that is written throughout agrees with no other one (R24). -/
theorem eq_of_sameWhereWritten {a b : Lanes Reg} (hw : allWritten a = true) (h : sameWhereWritten a b) : b = a := by
  refine Lanes.ext_get fun k => ?_
  obtain ⟨hbit, hvalue⟩ := h k
  have hval := hvalue ((allWritten_iff a).1 hw k)
  revert hbit hval
  cases a.get k; cases b.get k
  rintro rfl rfl
  rfl

/-- Two states agree where registers are written exactly when one is the other with registers that agree so. -/
theorem agreeWhereWritten_iff {s t : State} : AgreeWhereWritten s t ↔
    ∃ raw filt shad, t = s.setRegs raw filt shad ∧
      sameWhereWritten s.raw raw ∧ sameWhereWritten s.filt filt ∧ sameWhereWritten s.shad shad := by
  constructor
  · rintro ⟨hregs, hothers⟩
    refine ⟨t.raw, t.filt, t.shad, ?_, (State.forall_x s t _).1 hregs⟩
    rw [← hothers]
    rfl
  · rintro ⟨raw, filt, shad, rfl, hgroups⟩
    exact ⟨(State.forall_x s _ _).2 hgroups, rfl⟩

theorem AgreeWhereWritten.refl (s : State) : AgreeWhereWritten s s :=
  ⟨fun _ => ⟨rfl, fun _ => rfl⟩, rfl⟩

/-! ### Operations that read no register -/

theorem State.observe_setRegs (s : State) (raw filt shad : Lanes Reg) (f : EventFields) :
    (s.setRegs raw filt shad).observe f = ((s.observe f).1, (s.observe f).2.setRegs raw filt shad) := by
  unfold State.observe
  rw [show (s.setRegs raw filt shad).observer = s.observer from rfl]
  split <;> rfl

theorem State.offer_setRegs (s : State) (raw filt shad : Lanes Reg) (kind : EventKind) (payload : List Byte)
    (f : EventFields) :
    (s.setRegs raw filt shad).offer kind payload f = (s.offer kind payload f).setRegs raw filt shad := by
  rw [State.offer_spec, State.offer_spec, State.observe_setRegs]
  rfl

theorem State.announce_setRegs (s : State) (raw filt shad : Lanes Reg) (new : Mode) :
    (s.setRegs raw filt shad).announce new = (s.announce new).setRegs raw filt shad :=
  State.offer_setRegs (s.buildMode new) raw filt shad _ _ _

/-- What a transition does with the registers: ENABLE writes all of FILT, and nothing else is touched (R73, R74). -/
theorem State.transition_setRegs (s : State) (raw filt shad : Lanes Reg) (new : Mode) :
    ∃ filt', (s.setRegs raw filt shad).transition new = (s.transition new).setRegs raw filt' shad ∧
      (sameWhereWritten s.filt filt → sameWhereWritten (s.transition new).filt filt') := by
  cases new
  · exact ⟨filt, rfl, id⟩
  · exact ⟨(s.transition .enabled).filt, rfl, fun _ => sameWhereWritten_refl _⟩

/-- A transition ends alike, up to what is unwritten. -/
theorem AgreeWhereWritten.transition {s t : State} (h : AgreeWhereWritten s t) (new : Mode) :
    AgreeWhereWritten (s.transition new) (t.transition new) := by
  obtain ⟨raw, filt, shad, rfl, hraw, hfilt, hshad⟩ := agreeWhereWritten_iff.1 h
  obtain ⟨filt', heq, hfilt'⟩ := s.transition_setRegs raw filt shad new
  refine agreeWhereWritten_iff.2 ⟨raw, filt', shad, heq, ?_, hfilt' hfilt, ?_⟩
  · rw [State.transition_raw]; exact hraw
  · rw [State.transition_shad]; exact hshad

/-- The mode-change event tells nothing of the registers (R77). -/
theorem AgreeWhereWritten.announce {s t : State} (h : AgreeWhereWritten s t) (new : Mode) :
    AgreeWhereWritten (s.announce new) (t.announce new) := by
  obtain ⟨raw, filt, shad, rfl, hraw, hfilt, hshad⟩ := agreeWhereWritten_iff.1 h
  refine agreeWhereWritten_iff.2 ⟨raw, filt, shad, s.announce_setRegs raw filt shad new, ?_, ?_, ?_⟩
  · rw [State.announce_raw]; exact hraw
  · rw [State.announce_filt]; exact hfilt
  · rw [State.announce_shad]; exact hshad

/-- SETMODE's effect ends alike, up to what is unwritten. -/
theorem AgreeWhereWritten.changeMode {s t : State} (h : AgreeWhereWritten s t) (origin : Origin) (new : Mode) :
    AgreeWhereWritten (s.changeMode origin new) (t.changeMode origin new) := by
  have hmode : t.mode = s.mode := by
    obtain ⟨_, _, _, rfl, -⟩ := agreeWhereWritten_iff.1 h
    rfl
  unfold State.changeMode
  rw [hmode]
  split
  · exact h
  · cases origin
    · exact (h.transition new).announce new
    · exact h.transition new

/-- SETMODE ends alike, up to what is unwritten, or is refused alike. -/
theorem AgreeWhereWritten.requestMode {s t : State} (h : AgreeWhereWritten s t) (o : Origin) (id m : Byte) :
    (∃ s' t', requestMode o id m s = .next s' ∧ requestMode o id m t = .next t' ∧ AgreeWhereWritten s' t') ∨
      ∃ r, requestMode o id m s = .refused r ∧ requestMode o id m t = .refused r := by
  unfold Machine.requestMode
  cases modeRequest id m with
  | none => exact .inr ⟨_, rfl, rfl⟩
  | some new => exact .inl ⟨_, _, rfl, rfl, h.changeMode o new⟩

/-- IRQ sets the same flag (R70). -/
theorem AgreeWhereWritten.takeInterrupt {s t : State} (h : AgreeWhereWritten s t) :
    AgreeWhereWritten s.takeInterrupt t.takeInterrupt := by
  obtain ⟨raw, filt, shad, rfl, hgroups⟩ := agreeWhereWritten_iff.1 h
  exact agreeWhereWritten_iff.2 ⟨raw, filt, shad, rfl, hgroups⟩

/-! ### POLL -/

/-- A sequence reads FILT alone: it overwrites RAW and SHAD before it reads them (R85, R91, R120). -/
theorem State.pollSequence_setRegs (s : State) (raw shad : Lanes Reg) :
    (s.setRegs raw s.filt shad).pollSequence = s.pollSequence := by
  have hstep : (s.setRegs raw s.filt shad).readSensor.filterStep = s.readSensor.filterStep := by
    unfold State.readSensor State.burstRead
    rw [show (s.setRegs raw s.filt shad).sensor = s.sensor from rfl]
    split <;> rfl
  unfold State.pollSequence
  rw [hstep]

/-- POLL ends alike, up to what is unwritten: with the Latch true FILT has been written, and nothing else is read (R24,
R158). -/
theorem AgreeWhereWritten.pollPass {s t : State} (hs : Inv s) (h : AgreeWhereWritten s t) :
    AgreeWhereWritten s.pollPass t.pollPass := by
  obtain ⟨raw, filt, shad, rfl, hraw, hfilt, hshad⟩ := agreeWhereWritten_iff.1 h
  cases hl : s.latch with
  | false =>
    rw [State.pollPass_idle hl, State.pollPass_idle (s := s.setRegs raw filt shad) hl]
    exact h
  | true =>
    obtain rfl := eq_of_sameWhereWritten (hs.filtReady (.inr hl)) hfilt
    rw [State.pollPass_busy hl, State.pollPass_busy (s := s.setRegs raw s.filt shad) hl]
    have heq : ((s.setRegs raw s.filt shad).setLatch false).pollSequence = (s.setLatch false).pollSequence :=
      State.pollSequence_setRegs (s.setLatch false) raw shad
    rw [heq]
    exact .refl _

end Sys2Proof.Machine

open Sys2Proof Sys2Proof.Machine

/-- Settles O12, one top-level operation at a time; only POLL reads a register, and only where the invariant has it written. -/
theorem unwrittenContentsNeverLeak : Obligations.UnwrittenContentsNeverLeak := by
  intro i s t hi hs _ h
  cases i with
  | reset =>
    obtain ⟨raw, filt, shad, rfl, -⟩ := agreeWhereWritten_iff.1 h
    exact .inl ⟨_, _, rfl, rfl, .refl s.resetBlock⟩
  | irq =>
    have hie : t.ie = s.ie := by
      obtain ⟨raw, filt, shad, rfl, -⟩ := agreeWhereWritten_iff.1 h
      rfl
    refine .inl ⟨_, _, exec_irq s, exec_irq t, ?_⟩
    rw [hie]
    cases s.ie
    · exact h
    · exact h.takeInterrupt
  | setmode o id m => exact h.requestMode o id m
  | cmdSetMode m => exact h.requestMode .command Config.sensorIndex (modeByte m)
  | poll => exact .inl ⟨_, _, rfl, rfl, h.pollPass hs⟩
  | _ => cases hi

end

section
/-! What no operation but RESET reads: an update of such fields commutes with every operation and with every beginning. The
logs (R20, D23), the queue of requests, and what is left of the operation in progress with the turns (entries 7, 18) are such
fields. -/

namespace Sys2Proof.Machine

/-- An update of a state that leaves what operations read, and that commutes with what they write. -/
structure Unread (g : State → State) : Prop where
  raw : ∀ s, (g s).raw = s.raw
  filt : ∀ s, (g s).filt = s.filt
  shad : ∀ s, (g s).shad = s.shad
  latch : ∀ s, (g s).latch = s.latch
  mode : ∀ s, (g s).mode = s.mode
  pay : ∀ s, (g s).pay = s.pay
  truncMode : ∀ s, (g s).truncMode = s.truncMode
  observer : ∀ s, (g s).observer = s.observer
  sensor : ∀ s, (g s).sensor = s.sensor
  draws : ∀ s, (g s).draws = s.draws
  setRaw : ∀ s r, (g s).setRaw r = g (s.setRaw r)
  setFilt : ∀ s r, (g s).setFilt r = g (s.setFilt r)
  setShad : ∀ s r, (g s).setShad r = g (s.setShad r)
  setLatch : ∀ s b, (g s).setLatch b = g (s.setLatch b)
  setMode : ∀ s m, (g s).setMode m = g (s.setMode m)
  setPending : ∀ s b, (g s).setPending b = g (s.setPending b)
  setPay : ∀ s m, (g s).setPay m = g (s.setPay m)
  setMpay : ∀ s m, (g s).setMpay m = g (s.setMpay m)
  setSensor : ∀ s a, (g s).setSensor a = g (s.setSensor a)
  setObserver : ∀ s o, (g s).setObserver o = g (s.setObserver o)
  nextDraw : ∀ s, (g s).nextDraw = g s.nextDraw
  emit : ∀ s kind payload, (g s).emit kind payload = g (s.emit kind payload)
  control : ∀ s e, (g s).control e = g (s.control e)

namespace Unread

section
variable {g : State → State} (hg : Unread g)
include hg

/-! ### The shared operations -/

theorem observe (s : State) (f : EventFields) : (g s).observe f = ((s.observe f).1, g (s.observe f).2) := by
  unfold State.observe
  rw [hg.observer]
  split
  · rfl
  · rfl
  · rw [hg.setObserver]
  · rw [hg.nextDraw, hg.draws]

theorem offer (s : State) (kind : EventKind) (payload : List Byte) (f : EventFields) :
    (g s).offer kind payload f = g (s.offer kind payload f) := by
  unfold State.offer
  rw [hg.observe]
  cases (s.observe f).1
  · exact hg.emit _ _ _
  · rfl

theorem readSensor (s : State) : (g s).readSensor = g s.readSensor := by
  unfold State.readSensor State.burstRead
  rw [hg.sensor]
  split
  · rw [hg.setSensor, hg.setRaw]
  · rw [hg.nextDraw, hg.setRaw, hg.draws]

theorem shadowCopy (s : State) : (g s).shadowCopy = g s.shadowCopy := by
  rw [State.shadowCopy, hg.filt, hg.setShad]; rfl

theorem emaUpdate (s : State) : (g s).emaUpdate = g s.emaUpdate := by
  rw [State.emaUpdate, hg.truncMode, hg.shad, hg.raw, hg.setFilt]; rfl

theorem filterStep (s : State) : (g s).filterStep = g s.filterStep := by
  rw [State.filterStep, hg.shadowCopy, hg.emaUpdate]; rfl

theorem buildMotion (s : State) : (g s).buildMotion = g s.buildMotion := by
  rw [State.buildMotion, hg.filt, hg.setPay]; rfl

theorem sendMotion (s : State) : (g s).sendMotion = g s.sendMotion := by
  rw [State.sendMotion, hg.buildMotion, hg.filt, hg.offer]; rfl

theorem pollPass (s : State) : (g s).pollPass = g s.pollPass := by
  cases h : s.latch with
  | false => rw [State.pollPass_idle h, State.pollPass_idle ((hg.latch s).trans h)]
  | true =>
    rw [State.pollPass_busy h, State.pollPass_busy ((hg.latch s).trans h), hg.setLatch]
    simp only [State.pollSequence, hg.readSensor, hg.filterStep, hg.sendMotion]

theorem transition (s : State) (new : Mode) : (g s).transition new = g (s.transition new) := by
  cases new with
  | disabled => simp only [State.transition, State.disablePath, hg.control, hg.setMode]
  | enabled =>
    simp only [State.transition, State.enablePath, State.clearFilter, hg.setFilt, hg.setLatch, hg.setMode, hg.control]

theorem announce (s : State) (new : Mode) : (g s).announce new = g (s.announce new) := by
  simp only [State.announce, State.buildMode, hg.setMpay, hg.offer]

theorem changeMode (s : State) (origin : Origin) (new : Mode) :
    (g s).changeMode origin new = g (s.changeMode origin new) := by
  unfold State.changeMode
  rw [hg.mode]
  split
  · rfl
  · cases origin
    · simp only [hg.transition, hg.announce]
    · simp only [hg.transition]

/-! ### Operations and their beginnings -/

/-- Every operation but RESET does the same after such an update, and the update is still there afterwards. -/
theorem exec {i : Instr} {s t : State} (hi : i ≠ .reset) (he : exec i s = .next t) : exec i (g s) = .next (g t) := by
  cases does_of_exec he with
  | reset => exact absurd rfl hi
  | irqAccepted hm => rw [exec_irq_of_enabled ((hg.mode s).trans hm), hg.setLatch]
  | irqLost hm => exact exec_irq_of_disabled ((hg.mode s).trans hm)
  | setmode origin new => rw [exec_setmode, requestMode_defined, hg.changeMode]
  | cmdSetMode new => rw [exec_cmdSetMode, hg.changeMode]
  | pollIdle hl => rw [exec_poll, hg.pollPass, State.pollPass_idle hl]
  | pollBusy hl => rw [exec_poll, hg.pollPass, State.pollPass_busy hl]
  | lclr => rw [exec_lclr, hg.setLatch, hg.setPending, hg.latch]
  | rdsens => rw [exec_rdsens, hg.readSensor]
  | shadow => rw [exec_shadow, hg.shadowCopy]
  | ema => rw [exec_ema, hg.emaUpdate]
  | fclr => rw [exec_fclr, State.clearFilter, hg.setFilt]; rfl
  | fstep => rw [exec_fstep, hg.filterStep]
  | encmd => rw [exec_encmd, hg.buildMotion]
  | encmm new => rw [exec_encmm, State.buildMode, hg.setMpay]; rfl
  | gate hf => rw [exec_gate, execGate, hf, ← hg.offer]
  | put16le hcells v => rw [exec_put16le_of_cellsExist hcells, hg.pay, hg.setPay]
  | enable => exact congrArg _ (hg.transition s .enabled)
  | disable => exact congrArg _ (hg.transition s .disabled)
  | evtMotionData v => rw [exec_evtMotionData, hg.emit]
  | evtMotionMode m => rw [exec_evtMotionMode, hg.emit]

/-- Every operation begins the same after such an update (entry 18). -/
theorem begin (i : Instr) (s : State) : begin i (g s) = (begin i s).map fun r => (g r.1, r.2) := by
  have mode : ∀ o r, beginMode o r (g s) = (beginMode o r s).map fun r => (g r.1, r.2) := by
    intro o r
    cases r with
    | none => rfl
    | some new =>
      simp only [beginMode, hg.mode]
      split <;> rfl
  cases i with
  | setmode o id m => exact mode o _
  | cmdSetMode m => exact mode .command (some m)
  | encmd => simp only [Machine.begin, hg.setPay, hg.filt, Option.map_some]
  | gate kind payload =>
    simp only [Machine.begin, beginGate, hg.observe]
    split <;> rfl
  | _ => rfl

end

/-! ### Such updates -/

/-- No operation but RESET reads the logs (R20, D23). -/
theorem logs (sent : List (EventKind × List Byte)) (told : List CtlEvent) :
    Unread fun s => { s with tx := sent ++ s.tx, ctl := told ++ s.ctl } := by
  constructor
  case emit => intro s kind payload; simp [State.emit]
  case control => intro s e; simp [State.control]
  all_goals intros; rfl

/-- No operation reads the queue of requests (entry 7). -/
theorem input (ps : List Packet) : Unread fun s => s.setInput ps := by
  constructor <;> intros <;> rfl

end Unread

/-- The block's state with another operation in progress and other turns (entry 18). -/
def State.progress (s : State) (ts : List Task) (us : List Turn) : State := (s.setInside ts).setTurns us

/-- No operation but RESET reads what is left of the operation in progress, and none reads the turns (entry 18). -/
theorem Unread.progress (ts : List Task) (us : List Turn) : Unread fun s => s.progress ts us := by
  constructor <;> intros <;> rfl

/-- No operation but RESET changes what is left of the operation around it, the turns or the queue (entries 7, 18). -/
theorem exec_frame {i : Instr} {s t : State} (hi : i ≠ .reset) (he : exec i s = .next t) :
    t.inside = s.inside ∧ t.turns = s.turns ∧ t.input = s.input := by
  have hprogress := (Unread.progress s.inside s.turns).exec hi he
  have hinput := (Unread.input s.input).exec hi he
  have h1 : t = t.progress s.inside s.turns := Host.Outcome.next.inj (he.symm.trans hprogress)
  have h2 : t = t.setInput s.input := Host.Outcome.next.inj (he.symm.trans hinput)
  exact ⟨by rw [h1]; rfl, by rw [h1]; rfl, by rw [h2]; rfl⟩

end Sys2Proof.Machine

open Sys2Proof Sys2Proof.Machine

/-- Settles O58: what was logged before is read by no operation but RESET. -/
theorem logsAreNeverRead : Obligations.LogsAreNeverRead :=
  fun _ _ _ sent told hi he => (Unread.logs sent told).exec hi he

end

section
/-! An operation performed part by part (R62, R122; entry 18): from its beginning, the steps lead to where its meaning leads,
however finely they go, and to the operation around it. -/

namespace Sys2Proof.Machine

/-- No turn of the list is the outside's. -/
def NoOutside (us : List Turn) : Prop := ∀ u ∈ us, u ≠ .outside

theorem NoOutside.tail {us : List Turn} (h : NoOutside us) : NoOutside us.tail := fun u hu => h u (List.mem_of_mem_tail hu)

theorem State.turn_of_noOutside {s : State} (h : NoOutside s.turns) : s.turn ≠ .outside := by
  unfold State.turn
  cases hus : s.turns with
  | nil => decide
  | cons u us => exact h u (hus ▸ List.mem_cons_self)

/-- From `b`, at most `n` steps lead to the block's state `t` with `rest` left to do. -/
def LeadsTo (n : Nat) (b t : State) (rest : List Task) : Prop :=
  ∃ k vs, k ≤ n ∧ NoOutside vs ∧ ∀ m, finish (k + m) b = finish m (t.progress rest vs)

theorem LeadsTo.step {n : Nat} {b c t : State} {rest : List Task} (hi : b.inside ≠ []) (hs : step b = .next c)
    (h : LeadsTo n c t rest) : LeadsTo (n + 1) b t rest := by
  obtain ⟨k, vs, hk, hvs, hfinish⟩ := h
  refine ⟨k + 1, vs, by omega, hvs, fun m => ?_⟩
  rw [Nat.add_right_comm, finish_step hi hs, hfinish]

/-- Performing the tasks, one after the other and each as finely as its turn says, takes at most `n` steps and leads from `s`
to `t`, whatever operation is left around them. -/
def Performs (tasks : List Task) (n : Nat) (s t : State) : Prop :=
  ∀ rest us, NoOutside us → LeadsTo n (s.progress (tasks ++ rest) us) t rest

/-! ### Performing tasks one after the other -/

theorem Performs.nil (s : State) : Performs [] 0 s s :=
  fun _ us hus => ⟨0, us, Nat.le_refl 0, hus, fun m => by rw [Nat.zero_add]; rfl⟩

theorem Performs.cons {task : Task} {tasks : List Task} {n m : Nat} {s t u : State} (h : Performs [task] n s t)
    (h' : Performs tasks m t u) : Performs (task :: tasks) (n + m) s u := by
  intro rest us hus
  obtain ⟨k, vs, hk, hvs, hfinish⟩ := h (tasks ++ rest) us hus
  obtain ⟨k', ws, hk', hws, hfinish'⟩ := h' rest vs hvs
  refine ⟨k + k', ws, by omega, hws, fun m => ?_⟩
  rw [Nat.add_assoc, ← hfinish', ← hfinish]
  rfl

theorem Performs.mono {tasks : List Task} {n m : Nat} {s t : State} (h : Performs tasks n s t) (hn : n ≤ m) :
    Performs tasks m s t := by
  intro rest us hus
  obtain ⟨k, vs, hk, hfinish⟩ := h rest us hus
  exact ⟨k, vs, by omega, hfinish⟩

/-! ### One task -/

/-- A step on a task, where no turn is the outside's. -/
theorem step_progress (s : State) (task : Task) (rest : List Task) {us : List Turn} (hus : NoOutside us) :
    step (s.progress (task :: rest) us) =
      performTask task (s.progress (task :: rest) us).turn (s.progress rest us.tail) :=
  step_of_task rfl (State.turn_of_noOutside (s := s.progress (task :: rest) us) hus)

/-- A task that stands for an operation leads where the operation's meaning leads, if the operation's parts do. -/
theorem Performs.of_exec {task : Task} {i : Instr} {n : Nat} {s t : State}
    (htask : ∀ turn rest us, performTask task turn (s.progress rest us) = perform i turn (s.progress rest us))
    (hi : i ≠ .reset) (he : exec i s = .next t)
    (hparts : ∀ s' parts, begin i s = some (s', parts) → Performs parts n s' t) : Performs [task] (n + 1) s t := by
  intro rest us hus
  have hstep := (step_progress s task rest hus).trans (htask _ rest us.tail)
  rcases perform_cases i (s.progress (task :: rest) us).turn (s.progress rest us.tail) with hp | ⟨b, parts, -, hb, hp⟩
  · have hexec := (Unread.progress rest us.tail).exec hi he
    refine LeadsTo.step (List.cons_ne_nil _ _) (hstep.trans (hp.trans hexec)) ?_
    exact ⟨0, us.tail, Nat.zero_le _, hus.tail, fun m => by rw [Nat.zero_add]⟩
  · rw [(Unread.progress rest us.tail).begin, Option.map_eq_some_iff] at hb
    obtain ⟨⟨s', parts'⟩, hbegin, heq⟩ := hb
    cases heq
    exact LeadsTo.step (List.cons_ne_nil _ _) (hstep.trans hp) (hparts s' parts' hbegin rest us.tail hus.tail)

/-- A micro-operation leads where its meaning leads, if its parts do. -/
theorem Performs.op {i : Instr} {n : Nat} {s t : State} (hi : i ≠ .reset) (he : exec i s = .next t)
    (hparts : ∀ s' parts, begin i s = some (s', parts) → Performs parts n s' t) : Performs [.op i] (n + 1) s t :=
  .of_exec (fun _ _ _ => rfl) hi he hparts

/-- A micro-operation without parts is one step. -/
theorem Performs.single {i : Instr} {s t : State} (hi : i ≠ .reset) (hb : begin i s = none) (he : exec i s = .next t) :
    Performs [.op i] 1 s t :=
  .op (n := 0) hi he fun s' parts h => by rw [hb] at h; cases h

/-! ### The micro-operations that have parts -/

theorem performs_fstep (s : State) : Performs [.op .fstep] 3 s s.filterStep := by
  refine .op (by decide) (exec_fstep s) fun s' parts hb => ?_
  cases hb
  exact (Performs.single (by decide) rfl (exec_shadow s)).cons (.single (by decide) rfl (exec_ema s.shadowCopy))

/-- PUT16LE of lane `k` goes into whatever PAY holds so far (R105, R106). -/
theorem exec_put16le_lane (s : State) (m : Memory) {k : Nat} (hk : k < 6) (v : S16) :
    exec (.put16le (sampleIndex k) v) (s.setPay m) = .next (s.setPay (m.put16le (sampleIndex k) v)) :=
  exec_put16le_of_cellsExist (cellsExist_of_isSampleIndex (isSampleIndex_sampleIndex hk)) v (s.setPay m)

theorem performs_put16le (s : State) (m : Memory) {k : Nat} (hk : k < 6) (v : S16) :
    Performs [.op (.put16le (sampleIndex k) v)] 1 (s.setPay m) (s.setPay (m.put16le (sampleIndex k) v)) :=
  .single (by simp) rfl (exec_put16le_lane s m hk v)

/-- ENCMD is its three constant bytes and six PUT16LE (R106). -/
theorem performs_encmd (s : State) : Performs [.op .encmd] 7 s s.buildMotion := by
  refine .op (by decide) (exec_encmd s) fun s' parts hb => ?_
  cases hb
  rw [State.buildMotion, payOf]
  exact (performs_put16le s payHeader (by decide) _).cons <| (performs_put16le s _ (by decide) _).cons <|
    (performs_put16le s _ (by decide) _).cons <| (performs_put16le s _ (by decide) _).cons <|
    (performs_put16le s _ (by decide) _).cons <| performs_put16le s _ (by decide) _

theorem eventOf_ne_reset (f : EventFields) : eventOf f ≠ .reset := by cases f <;> simp [eventOf]

theorem begin_eventOf (f : EventFields) (s : State) : begin (eventOf f) s = none := by cases f <;> rfl

/-- What ENCMD built is the payload of the filtered values (R106). -/
theorem State.built_buildMotion (s : State) : s.buildMotion.built .motionData = motionPayload (regValues s.filt) :=
  payOf_bytes _

/-- What ENCMM built is the payload of the mode it was given (R109). -/
theorem State.built_buildMode (s : State) (new : Mode) : (s.buildMode new).built .modeChange = modePayload new :=
  mpayOf_bytes new

/-- GATE of what was built: the observer is asked, and the Emit is left unless it is to be skipped (R115). -/
theorem performs_gateBuilt {kind : EventKind} {s : State} {payload : List Byte} {f : EventFields}
    (hpayload : s.built kind = payload) (hf : fieldsOf kind payload = some f) :
    Performs [.gateBuilt kind] 2 s (s.offer kind payload f) := by
  subst hpayload
  have hexec : exec (.gate kind (s.built kind)) s = .next (s.offer kind (s.built kind) f) := by
    rw [exec_gate, execGate, hf]
  refine .of_exec (i := .gate kind (s.built kind)) (fun _ _ _ => ?_) (by simp) hexec fun s' parts hb => ?_
  · cases kind <;> rfl
  · obtain ⟨-, -, f', hf', rfl, rfl⟩ := begin_gate hb
    obtain rfl := Option.some.inj (hf.symm.trans hf')
    unfold State.offer
    cases (s.observe f).1
    · exact .single (eventOf_ne_reset f) (begin_eventOf f _) (encode_eventOf hf _)
    · exact (Performs.nil _).mono (by decide)

/-! ### The top-level operations that have parts -/

/-- RDSENS, FSTEP, ENCMD and GATE of what ENCMD built are one sequence (R120). -/
theorem performs_pollSequence (s : State) :
    Performs [.op .rdsens, .op .fstep, .op .encmd, .gateBuilt .motionData] 13 s s.pollSequence :=
  (Performs.single (by decide) rfl (exec_rdsens s)).cons <| (performs_fstep s.readSensor).cons <|
    (performs_encmd s.readSensor.filterStep).cons <| performs_gateBuilt (State.built_buildMotion _) (fieldsOf_motionPayload _)

/-- The rest of POLL, where LCLR found a sample pending or not (R120). -/
theorem performs_pollRest {s t : State} (hbusy : s.pending = true → t = s.pollSequence)
    (hidle : s.pending = false → t = s) : Performs [.pollRest] 14 s t := by
  intro rest us hus
  have hstep := (step_progress s .pollRest rest hus).trans (performTask_pollRest _ _)
  refine LeadsTo.step (List.cons_ne_nil _ _) hstep ?_
  rw [show (s.progress rest us.tail).pending = s.pending from rfl]
  cases hp : s.pending with
  | true => rw [hbusy hp]; exact performs_pollSequence s rest us.tail hus.tail
  | false => rw [hidle hp]; exact (Performs.nil s).mono (Nat.zero_le _) rest us.tail hus.tail

/-- LCLR and the rest of POLL are POLL, up to LCLR's own result (R120, R121; entry 12). -/
theorem performs_poll (s : State) : Performs [.op .lclr, .pollRest] 15 s (s.pollPass.setPending s.latch) := by
  refine (Performs.single (by decide) rfl (exec_lclr s)).cons (performs_pollRest (fun hp => ?_) fun hp => ?_)
  · rw [State.pollPass_busy hp, State.pollSequence_setPending]
  · have hl : s.latch = false := hp
    have hs : s.setLatch false = s := by rw [← hl]; rfl
    rw [State.pollPass_idle hl, hs]

theorem exec_transitionOp (new : Mode) (s : State) : exec (transitionOp new) s = .next (s.transition new) := by
  cases new <;> rfl

/-- The transition, and the event unless a command asked for it, are SETMODE for the other mode (R72, R77). -/
theorem performs_changeMode {s : State} {new : Mode} (hn : new ≠ s.mode) (origin : Origin) :
    Performs (.op (transitionOp new) :: announceTasks origin new) 4 s (s.changeMode origin new) := by
  have htransition : Performs [.op (transitionOp new)] 1 s (s.transition new) :=
    .single (by cases new <;> simp [transitionOp]) (by cases new <;> rfl) (exec_transitionOp new s)
  cases origin with
  | command =>
    rw [State.changeMode_command hn]
    exact htransition.mono (by decide)
  | api =>
    rw [State.changeMode_api hn]
    exact htransition.cons <| (Performs.single (by simp) rfl (exec_encmm new _)).cons <|
      performs_gateBuilt (State.built_buildMode _ new) (fieldsOf_modePayload new)

/-- A top-level operation's parts lead where its meaning leads, up to LCLR's own result (R62, R122; entry 12). -/
theorem performs_begun {i : Instr} {s s' t : State} {parts : List Task} (hi : isTopLevel i = true)
    (he : exec i s = .next t) (hb : begin i s = some (s', parts)) : ∃ p, Performs parts 15 s' (t.setPending p) := by
  have mode : ∀ {origin request}, beginMode origin request s = some (s', parts) →
      (∀ new, request = some new → t = s.changeMode origin new) → ∃ p, Performs parts 15 s' (t.setPending p) := by
    intro origin request hb ht
    obtain ⟨rfl, -, new, hnew, hne, rfl⟩ := beginMode_spec hb
    rw [ht new hnew]
    exact ⟨_, (performs_changeMode hne origin).mono (by decide)⟩
  cases i with
  | poll => cases he; cases hb; exact ⟨_, performs_poll s⟩
  | setmode o id m =>
    refine mode hb fun new hnew => ?_
    rw [exec_setmode, requestMode, hnew] at he
    cases he
    rfl
  | cmdSetMode m =>
    refine mode (request := some m) hb fun new hnew => ?_
    rw [exec_cmdSetMode] at he
    cases he; cases hnew
    rfl
  | reset => cases hb
  | irq => cases hb
  | _ => cases hi

/-! ### The end -/

/-- No operation reads the turns (entry 18). -/
theorem exec_setTurns {i : Instr} {s t : State} (he : exec i s = .next t) (us : List Turn) :
    exec i (s.setTurns us) = .next (t.setTurns us) := by
  by_cases hi : i = .reset
  · subst hi; cases he; rfl
  · have hturns : Unread fun s => s.setTurns us := by constructor <;> intros <;> rfl
    exact hturns.exec hi he

/-- Only LCLR's own result, what is left to do and the turns differ at the end of the parts (entries 12, 18). -/
theorem State.progress_restored (t : State) (us : List Turn) (q : Bool) (vs : List Turn) :
    { ((t.setTurns us).setPending q).progress t.inside vs with turns := t.turns, pending := t.pending } = t := by
  cases t
  rfl

/-- An operation performed with nothing in progress leaves nothing in progress. -/
theorem exec_inside_nil {i : Instr} {s t : State} (hs : s.inside = []) (he : exec i s = .next t) : t.inside = [] := by
  by_cases hi : i = .reset
  · subst hi; cases he; rfl
  · exact (exec_frame hi he).1.trans hs

end Sys2Proof.Machine

open Sys2Proof Sys2Proof.Machine

/-- Settles O4: the first step performs the operation whole or begins it, and then its parts lead where its meaning leads. -/
theorem partsEndAsTheWhole : Obligations.PartsEndAsTheWhole := by
  intro s t p rest i hi hq hd htop hturns he
  have hexec : exec i (s.setInput rest).nextTurn = .next (t.setTurns s.turns.tail) := exec_setTurns he s.turns.tail
  have ht : t.inside = [] := exec_inside_nil (s := s.setInput rest) hi he
  have hstep := step_of_request hi hq hd htop
  rcases perform_cases i s.turn (s.setInput rest).nextTurn with hp | ⟨s', parts, -, hb, hp⟩
  · exact ⟨_, _, hstep.trans (hp.trans hexec), finish_over (s := t.setTurns s.turns.tail) ht 20, ht, rfl⟩
  · obtain ⟨q, hperforms⟩ := performs_begun htop hexec hb
    obtain ⟨k, vs, hk, -, hfinish⟩ := hperforms [] s.turns.tail (NoOutside.tail hturns)
    refine ⟨_, ((t.setTurns s.turns.tail).setPending q).progress [] vs, hstep.trans hp, ?_, rfl, ?_⟩
    · obtain ⟨rfl, -⟩ := begin_topLevel htop hb
      have hbegun : ((s.setInput rest).nextTurn).pushInside parts =
          ((s.setInput rest).nextTurn).progress (parts ++ []) s.turns.tail := by
        rw [← hi]
        rfl
      rw [hbegun, show 20 = k + (20 - k) by omega, hfinish]
      exact finish_over rfl _
    · have hend := State.progress_restored t s.turns.tail q vs
      rw [ht] at hend
      exact hend

end

section
/-! The whole machine (R12 to R17, R20, R25, R130, R133, R138): which operations change each register, flag and log, what
none changes, and that every operation completes. -/

namespace Sys2Proof.Machine

/-! ### The flags -/

/-- LATCH is set by an accepted IRQ or an enable (R16, R133). -/
theorem latch_set_by {i : Instr} {s t : State} (he : exec i s = .next t) (hs : s.latch = false) (ht : t.latch = true) :
    (i = .irq ∧ s.mode = .enabled) ∨ i = .enable ∨
      (s.mode = .disabled ∧ t.mode = .enabled ∧ ((∃ o id m, i = .setmode o id m) ∨ i = .cmdSetMode .enabled)) := by
  have kept : ∀ {u : State}, u.latch = true → ¬u.latch = s.latch := fun hu hk => by
    rw [hk, hs] at hu
    cases hu
  cases does_of_exec he with
  | irqAccepted hm => exact .inl ⟨rfl, hm⟩
  | enable => exact .inr (.inl rfl)
  | setmode o new =>
    rcases s.changeMode_latch o new with h | ⟨hm, rfl, -⟩
    · exact absurd h (kept ht)
    · exact .inr (.inr ⟨hm, s.changeMode_mode o .enabled, .inl ⟨o, _, _, rfl⟩⟩)
  | cmdSetMode new =>
    rcases s.changeMode_latch .command new with h | ⟨hm, rfl, -⟩
    · exact absurd h (kept ht)
    · exact .inr (.inr ⟨hm, s.changeMode_mode .command .enabled, .inr rfl⟩)
  | pollBusy hl => rw [hs] at hl; cases hl
  | rdsens => exact absurd s.readSensor_latch (kept ht)
  | gate hf => exact absurd (s.offer_latch _ _ _) (kept ht)
  | reset => cases ht
  | lclr => cases ht
  | _ => exact absurd rfl (kept ht)

/-- LATCH is cleared by LCLR, alone or inside POLL, and by RESET (R16). -/
theorem latch_cleared_by {i : Instr} {s t : State} (he : exec i s = .next t) (hs : s.latch = true) (ht : t.latch = false) :
    i = .lclr ∨ i = .poll ∨ i = .reset := by
  have kept : ∀ {u : State}, u.latch = false → ¬u.latch = s.latch := fun hu hk => by
    rw [hk, hs] at hu
    cases hu
  have mode : ∀ {o new}, (s.changeMode o new).latch = false → False := fun {o new} hc => by
    rcases s.changeMode_latch o new with h | ⟨-, -, h⟩
    · exact absurd h (kept hc)
    · rw [hc] at h; cases h
  cases does_of_exec he with
  | lclr => exact .inl rfl
  | pollBusy => exact .inr (.inl rfl)
  | reset => exact .inr (.inr rfl)
  | setmode => exact absurd ht mode
  | cmdSetMode => exact absurd ht mode
  | rdsens => exact absurd s.readSensor_latch (kept ht)
  | gate hf => exact absurd (s.offer_latch _ _ _) (kept ht)
  | irqAccepted => cases ht
  | enable => cases ht
  | _ => exact absurd rfl (kept ht)

/-- MODE is changed by RESET, a transition, or SETMODE for the mode it leaves (R17, R138). -/
theorem mode_changed_by {i : Instr} {s t : State} (he : exec i s = .next t) (h : t.mode ≠ s.mode) :
    i = .reset ∨ i = .enable ∨ i = .disable ∨ i = .cmdSetMode t.mode ∨
      ∃ o, i = .setmode o Config.sensorIndex (modeByte t.mode) := by
  cases does_of_exec he with
  | reset => exact .inl rfl
  | enable => exact .inr (.inl rfl)
  | disable => exact .inr (.inr (.inl rfl))
  | cmdSetMode new => exact .inr (.inr (.inr (.inl (by rw [s.changeMode_mode]))))
  | setmode o new => exact .inr (.inr (.inr (.inr ⟨o, by rw [s.changeMode_mode]⟩)))
  | pollBusy => exact absurd (State.pollSequence_mode _) h
  | rdsens => exact absurd s.readSensor_mode h
  | gate => exact absurd (s.offer_mode _ _ _) h
  | _ => exact absurd rfl h

/-! ### The registers -/

/-- RAW is changed by RDSENS, alone or inside POLL, and by RESET (R12). -/
theorem raw_changed_by {i : Instr} {s t : State} (he : exec i s = .next t) (h : t.raw ≠ s.raw) :
    i = .rdsens ∨ i = .poll ∨ i = .reset := by
  cases does_of_exec he with
  | rdsens => exact .inl rfl
  | pollBusy => exact .inr (.inl rfl)
  | reset => exact .inr (.inr rfl)
  | setmode o new => exact absurd (s.changeMode_raw o new) h
  | cmdSetMode new => exact absurd (s.changeMode_raw .command new) h
  | gate => exact absurd (s.offer_raw _ _ _) h
  | _ => exact absurd rfl h

/-- SHAD is changed by SHADOW, alone or inside FSTEP or POLL, and by RESET (R14). -/
theorem shad_changed_by {i : Instr} {s t : State} (he : exec i s = .next t) (h : t.shad ≠ s.shad) :
    i = .shadow ∨ i = .fstep ∨ i = .poll ∨ i = .reset := by
  cases does_of_exec he with
  | shadow => exact .inl rfl
  | fstep => exact .inr (.inl rfl)
  | pollBusy => exact .inr (.inr (.inl rfl))
  | reset => exact .inr (.inr (.inr rfl))
  | setmode o new => exact absurd (s.changeMode_shad o new) h
  | cmdSetMode new => exact absurd (s.changeMode_shad .command new) h
  | rdsens => exact absurd s.readSensor_shad h
  | gate => exact absurd (s.offer_shad _ _ _) h
  | _ => exact absurd rfl h

/-- FILT is changed by EMA and FCLR, alone or inside the operation that performs them, and by RESET (R13). -/
theorem filt_changed_by {i : Instr} {s t : State} (he : exec i s = .next t) (h : t.filt ≠ s.filt) :
    i = .ema ∨ i = .fstep ∨ i = .poll ∨ i = .fclr ∨ i = .enable ∨ i = .reset ∨ i = .cmdSetMode .enabled ∨
      ∃ o, i = .setmode o Config.sensorIndex Config.modeEnabled := by
  cases does_of_exec he with
  | ema => exact .inl rfl
  | fstep => exact .inr (.inl rfl)
  | pollBusy => exact .inr (.inr (.inl rfl))
  | fclr => exact .inr (.inr (.inr (.inl rfl)))
  | enable => exact .inr (.inr (.inr (.inr (.inl rfl))))
  | reset => exact .inr (.inr (.inr (.inr (.inr (.inl rfl)))))
  | cmdSetMode new =>
    cases new with
    | disabled => exact absurd (s.changeMode_disabled_filt .command) h
    | enabled => exact .inr (.inr (.inr (.inr (.inr (.inr (.inl rfl))))))
  | setmode o new =>
    cases new with
    | disabled => exact absurd (s.changeMode_disabled_filt o) h
    | enabled => exact .inr (.inr (.inr (.inr (.inr (.inr (.inr ⟨o, rfl⟩))))))
  | rdsens => exact absurd s.readSensor_filt h
  | gate => exact absurd (s.offer_filt _ _ _) h
  | _ => exact absurd rfl h

/-! ### The logs -/

/-- An operation other than RESET sends at most one payload, of its kind's layout, after what was sent before (R37, R39). -/
theorem exec_tx {i : Instr} {s t : State} (hi : i ≠ .reset) (he : exec i s = .next t) :
    t.tx = s.tx ∨ ∃ kind payload, payloadFits kind payload = true ∧ t.tx = s.tx ++ [(kind, payload)] := by
  cases does_of_exec he with
  | reset => exact absurd rfl hi
  | setmode o new => exact (s.changeMode_tx o new).imp_right fun h => ⟨_, _, payloadFits_modePayload new, h⟩
  | cmdSetMode new => exact .inl (s.changeMode_command_tx new)
  | pollBusy =>
    have hfits : payloadFits .motionData (s.setLatch false).pollSequence.pay.bytes = true := by
      rw [State.pollSequence_pay, payOf_bytes]
      exact payloadFits_motionPayload _
    exact ((s.setLatch false).pollSequence_tx.1).imp_right fun h => ⟨_, _, hfits, h⟩
  | rdsens => exact .inl s.readSensor_tx
  | gate hf =>
    exact ((s.offer_frame _ _ _).1).imp_right fun h => ⟨_, _, by rw [← fieldsOf_isSome, hf]; rfl, h⟩
  | evtMotionData v => exact .inr ⟨_, _, payloadFits_motionPayload v, rfl⟩
  | evtMotionMode m => exact .inr ⟨_, _, payloadFits_modePayload m, rfl⟩
  | _ => exact .inl rfl

/-- An operation other than RESET signals after what was signalled before (R20). -/
theorem exec_ctl {i : Instr} {s t : State} (hi : i ≠ .reset) (he : exec i s = .next t) :
    ∃ more, t.ctl = s.ctl ++ more := by
  have kept : ∀ {u : State}, u.ctl = s.ctl → ∃ more, u.ctl = s.ctl ++ more := fun h => ⟨[], by rw [h, List.append_nil]⟩
  cases does_of_exec he with
  | reset => exact absurd rfl hi
  | setmode o new => exact s.changeMode_ctl o new
  | cmdSetMode new => exact s.changeMode_ctl .command new
  | enable => exact s.transition_ctl .enabled
  | disable => exact s.transition_ctl .disabled
  | pollBusy => exact kept (State.pollSequence_ctl _)
  | rdsens => exact kept s.readSensor_ctl
  | gate => exact kept (s.offer_ctl _ _ _)
  | _ => exact kept rfl

/-! ### The parameters -/

/-- No operation changes TRUNC_MODE (R25). -/
theorem exec_truncMode {i : Instr} {s t : State} (he : exec i s = .next t) : t.truncMode = s.truncMode := by
  cases does_of_exec he with
  | setmode o new => exact s.changeMode_truncMode o new
  | cmdSetMode new => exact s.changeMode_truncMode .command new
  | pollBusy => exact State.pollSequence_truncMode _
  | rdsens => exact s.readSensor_truncMode
  | gate => exact s.offer_truncMode _ _ _
  | _ => rfl

/-- No operation registers an observer or removes one (R25, R116). -/
theorem exec_absent_iff {i : Instr} {s t : State} (he : exec i s = .next t) :
    t.observer = .absent ↔ s.observer = .absent := by
  cases does_of_exec he with
  | setmode o new => exact s.changeMode_absent_iff o new
  | cmdSetMode new => exact s.changeMode_absent_iff .command new
  | pollBusy => exact State.pollSequence_absent_iff _
  | rdsens => rw [s.readSensor_observer]
  | gate => exact s.offer_absent_iff _ _ _
  | _ => exact Iff.rfl

end Sys2Proof.Machine

open Sys2Proof Sys2Proof.Machine

/-- Settles O18, by the operations that set LATCH and those that clear it. -/
theorem latchChangesOnlyByItsWriters : Obligations.LatchChangesOnlyByItsWriters :=
  fun _ _ _ he => ⟨latch_set_by he, latch_cleared_by he⟩

/-- Settles O25, by the operations that change MODE. -/
theorem modeChangesOnlyByModeControl : Obligations.ModeChangesOnlyByModeControl := fun _ _ _ => mode_changed_by

/-- Settles O56, register group by register group. -/
theorem registersChangeOnlyByTheirWriters : Obligations.RegistersChangeOnlyByTheirWriters :=
  fun _ _ _ he => ⟨raw_changed_by he, shad_changed_by he, filt_changed_by he⟩

/-- Settles O57, log by log. -/
theorem sentPayloadsAreNeverChanged : Obligations.SentPayloadsAreNeverChanged :=
  fun _ _ _ he hi _ => ⟨exec_tx hi he, exec_ctl hi he⟩

/-- Settles O59: RESET keeps what the other operations keep, but for the operation in progress. -/
theorem parametersAreNeverChanged : Obligations.ParametersAreNeverChanged := by
  intro i s t he
  by_cases hi : i = .reset
  · subst hi
    cases he
    exact ⟨rfl, rfl, rfl, Iff.rfl, fun h => absurd rfl h⟩
  · obtain ⟨hinside, hturns, hinput⟩ := exec_frame hi he
    exact ⟨exec_truncMode he, hinput, hturns, exec_absent_iff he, fun _ => hinside⟩

/-- Settles O55: only a request's operands can be undefined where an operation is well formed. -/
theorem everyOperationCompletes : Obligations.EveryOperationCompletes := by
  intro i s hwf
  cases i with
  | setmode o id m =>
    rcases requestMode_cases o id m s with ⟨new, -, -, h⟩ | ⟨hnone, h⟩
    · exact .inl ⟨_, h⟩
    · exact .inr ⟨o, id, m, rfl, hnone, h⟩
  | cmdSetMode m => exact .inl ⟨_, exec_cmdSetMode m s⟩
  | gate kind payload =>
    obtain ⟨f, -, h⟩ := exec_gate_of_payloadFits hwf s
    exact .inl ⟨_, h⟩
  | put16le index v => exact .inl ⟨_, exec_put16le_of_cellsExist (cellsExist_of_isSampleIndex hwf) v s⟩
  | _ => exact .inl ⟨_, rfl⟩

end

section
/-! The Interrupt Latch and RESET (R121, R136, R150, R151): what LCLR, a row of IRQs and a RESET leave. -/

namespace Sys2Proof.Machine

/-- A second IRQ changes nothing (R136). -/
theorem exec_irq_again {s t : State} (h : exec .irq s = .next t) : exec .irq t = .next t := by
  cases does_of_exec h with
  | irqAccepted hm => exact exec_irq_of_enabled (s := s.setLatch true) hm
  | irqLost hm => exact exec_irq_of_disabled hm

/-- An operation that leaves a state alone leaves it alone any number of times. -/
theorem runOps_replicate_fixed {i : Instr} {t : State} (h : exec i t = .next t) (n : Nat) :
    runOps (List.replicate n i) t = .next t := by
  induction n with
  | zero => rfl
  | succ n ih => rw [List.replicate_succ, runOps_cons h, ih]

/-- After RESET no register is written (R150). -/
theorem State.resetBlock_unwritten (s : State) (i : Fin 18) : (s.resetBlock.x i).written = false := by
  refine (State.forall_x s.resetBlock s.resetBlock fun a _ => a.written = false).2 ⟨?_, ?_, ?_⟩ i <;>
    exact unwrittenRegs_written _ _

/-- ENABLE writes 0 to every lane of FILT (R73, R90). -/
@[simp] theorem State.clearFilter_filt_get (s : State) (k : Fin 6) : s.clearFilter.filt.get k = Reg.wrote 0 := by
  simp [State.clearFilter]

@[simp] theorem State.clearFilter_filtVal (s : State) (k : Fin 6) : s.clearFilter.filtVal k = 0 := by
  simp [State.filtVal]

end Sys2Proof.Machine

open Sys2Proof Sys2Proof.Machine

/-- Settles O17: the test and clear writes LATCH, and its result stands in `pending`. -/
theorem lclrTestsAndClears : Obligations.LclrTestsAndClears := exec_lclr

/-- Settles O16: after one IRQ, each further one changes nothing. -/
theorem repeatedIrqsCountOnce : Obligations.RepeatedIrqsCountOnce := by
  intro n s
  obtain ⟨t, h, -⟩ := exec_irq_frame s
  refine ⟨t, runOps_single h, ?_⟩
  rw [List.replicate_succ, runOps_cons h, runOps_replicate_fixed (exec_irq_again h)]

/-- Settles O13: after RESET the block is disabled with LATCH false, and so IRQ and POLL have nothing to do. -/
theorem resetDisablesAndForgets : Obligations.ResetDisablesAndForgets :=
  fun s => ⟨s.resetBlock, exec_reset s, rfl, rfl, rfl, s.resetBlock_unwritten, rfl, rfl, rfl, rfl, rfl, rfl, rfl,
    congrArg _ (State.pollPass_idle rfl), exec_irq_of_disabled rfl⟩

/-- Settles O14: the enable after RESET is the transition to Enabled and its event. -/
theorem firstEnableAfterReset : Obligations.FirstEnableAfterReset := by
  intro s hs
  have henable : exec (.setmode .api Config.sensorIndex Config.modeEnabled) s.resetBlock =
      .next ((s.resetBlock.transition .enabled).announce .enabled) := by
    have hother : Mode.enabled ≠ s.resetBlock.mode := (by decide : Mode.enabled ≠ Mode.disabled)
    rw [exec_setmode]
    exact (requestMode_defined .api .enabled _).trans (congrArg _ (State.changeMode_api hother))
  refine ⟨_, (runOps_cons (exec_reset s)).trans (runOps_single henable), ?mode, ?latch, fun k => ?filt, fun k => ?others,
    ?ctl, ?tx⟩
  case mode => exact State.announce_get State.mode _ _
  case latch => exact State.announce_get State.latch _ _
  case filt =>
    rw [State.filtVal, State.announce_filt]
    exact ⟨s.resetBlock.clearFilter_filtVal k, congrArg Reg.written (s.resetBlock.clearFilter_filt_get k)⟩
  case others =>
    rw [State.announce_raw, State.announce_shad, State.transition_raw, State.transition_shad]
    exact ⟨unwrittenRegs_written _ _ k, unwrittenRegs_written _ _ k⟩
  case ctl => exact State.announce_get State.ctl _ _
  case tx => exact ((s.resetBlock.transition .enabled).announce_tx .enabled).2 hs

end

section
/-! The Mode Controller (R72 to R78): what a request names, what the two transitions leave, and the event after one. -/

namespace Sys2Proof.Machine

/-- A sensor id other than 0 or a byte above 1 names no mode (R78). -/
theorem modeRequest_undefined {id m : Byte} (h : id ≠ 0x00 ∨ 1 < m.toNat) : modeRequest id m = none := by
  cases hr : modeRequest id m with
  | none => rfl
  | some new =>
    obtain ⟨hid, rfl⟩ := modeRequest_eq_some.1 hr
    rcases h with h | h
    · exact absurd hid h
    · cases new <;> exact absurd h (by decide)

/-- A mode command packet reads its two bytes as a request's operands (R57, R72). -/
theorem decode_modeCommand_undefined {id m : Byte} (h : modeRequest id m = none) :
    decode ⟨.mc, [id, m]⟩ = .error .modeCommandUndefined := by
  have hunpack : unpackMode [id, m] = none := h
  show decodeMc [id, m] = _
  rw [decodeMc, hunpack]

/-- SETMODE with operands that name a mode (R72). -/
theorem exec_setmode_defined (origin : Origin) (new : Mode) (s : State) :
    exec (.setmode origin Config.sensorIndex (modeByte new)) s = .next (s.changeMode origin new) := by
  rw [exec_setmode, requestMode_defined]

/-- From 0, the blend is a quarter of what was read (R92). -/
theorem emaInt_zero (mode : TruncMode) (raw : Int) : emaInt mode 0 raw = trunc4 mode raw := by
  simp [emaInt]

/-- What announcing a mode leaves in MPAY (R109). -/
theorem State.announce_mpay (s : State) (new : Mode) : (s.announce new).mpay = mpayOf new :=
  State.offer_get State.mpay (s.buildMode new) .modeChange (modePayload new) (modeFields new)

/-- ENCMM and GATE of what it built announce a mode (R77). -/
theorem runOps_announce (s : State) (new : Mode) :
    runOps [.encmm new, .gate .modeChange (modePayload new)] s = .next (s.announce new) := by
  rw [runOps_cons (exec_encmm new s)]
  exact runOps_single (exec_gate_mode new _)

end Sys2Proof.Machine

open Sys2Proof Sys2Proof.Machine

/-- Settles O19: undefined operands name no mode, and a packet's bytes are read as operands. -/
theorem undefinedModeRequestIsRefused : Obligations.UndefinedModeRequestIsRefused := by
  intro id m h
  have hnone := modeRequest_undefined h
  refine ⟨fun o s => ?_, fun s rest hi hq => ?_⟩
  · rw [exec_setmode, requestMode, hnone]
  · rw [step_of_idle hi, takeRequest_error hq (decode_modeCommand_undefined hnone)]
    rfl

/-- Settles O20: SETMODE compares the mode it is given with the mode in force. -/
theorem sameModeRequestDoesNothing : Obligations.SameModeRequestDoesNothing := by
  intro o s
  rw [exec_setmode_defined, exec_cmdSetMode, State.changeMode_same, State.changeMode_same]
  exact ⟨rfl, rfl⟩

/-- Settles O21, by what ENABLE writes; a POLL after it blends with 0. -/
theorem enableZeroesFilterAndForcesLatch : Obligations.EnableZeroesFilterAndForcesLatch := by
  intro s
  have hzero : ∀ k, s.enablePath.filtVal k = 0 := s.clearFilter_filtVal
  refine ⟨s.enablePath, exec_enable s,
    fun k => ⟨hzero k, congrArg Reg.written (s.clearFilter_filt_get k)⟩, rfl, rfl, List.append_assoc _ _ _, rfl,
    _, (exec_poll _).trans (congrArg _ (State.pollPass_busy rfl)), fun k => ?_⟩
  rw [State.pollSequence_filtVal, show (s.enablePath.setLatch false).filtVal k = 0 from hzero k, emaInt_zero]
  rfl

/-- Settles O22, by what DISABLE writes; it leaves the interrupt path closed. -/
theorem disableKeepsLatchAndFilter : Obligations.DisableKeepsLatchAndFilter :=
  fun s => ⟨s.disablePath, exec_disable s, rfl, List.append_assoc _ _ _, rfl, exec_irq_of_disabled rfl⟩

/-- Settles O23: a request for the other mode is the transition, and by API the event after it, which is ENCMM and GATE. -/
theorem modeChangeAnnouncedUnlessCommanded : Obligations.ModeChangeAnnouncedUnlessCommanded := by
  intro s new hnew
  have hrun : runOps [transitionOp new, .encmm new, .gate .modeChange (modePayload new)] s =
      .next ((s.transition new).announce new) := (runOps_cons (exec_transitionOp new s)).trans (runOps_announce _ new)
  obtain ⟨hindex, hmode⟩ := mpayOf_read new
  obtain ⟨honce, habsent⟩ := (s.transition new).announce_tx new
  refine ⟨s.transition new, (s.transition new).announce new, exec_transitionOp new s, ?command, ?api, hrun, ?mpay0, ?mpay1,
    fun a ha => ?mpayAbove, honce, fun h => habsent ((s.transition_observer new).trans h),
    (s.transition new).announce_frame new⟩
  case command => rw [exec_setmode_defined, State.changeMode_command hnew]
  case api => rw [exec_setmode_defined, State.changeMode_api hnew]
  case mpay0 => rw [State.announce_mpay, hindex]
  case mpay1 => rw [State.announce_mpay, hmode]
  case mpayAbove => rw [State.announce_mpay, Memory.read_of_wf (mpayOf_wf new) ha]

/-- Settles O24, by SETMODE on the operands a mode command carries. -/
theorem commandPacketIsCommandedSetmode : Obligations.CommandPacketIsCommandedSetmode :=
  fun m s => ⟨s.changeMode .command m, exec_cmdSetMode m s, exec_setmode_defined .command m s,
    s.changeMode_mode .command m, s.changeMode_command_tx m⟩

end

section
/-! The Sensor Reader and the Smoothing Filter (R85, R90, R93 to R101): one burst read, one blend of a lane, its two
truncations, its 18-bit datapath, and a row of blends with a constant input. -/

namespace Sys2Proof.Machine

/-! ### One burst read -/

/-- A burst read whose answer the state lists (R85). -/
theorem exec_rdsens_listed {s : State} {v : Sample} {rest : List Sample} (h : s.sensor = v :: rest) :
    exec .rdsens s = .next ((s.setSensor rest).setRaw (wroteLanes v)) := by
  rw [exec_rdsens, State.readSensor, State.burstRead_listed h]

/-- A burst read past the listed answers gets a free value (R85; entry 5). -/
theorem exec_rdsens_free {s : State} (h : s.sensor = []) :
    exec .rdsens s = .next (s.nextDraw.setRaw (wroteLanes (Config.sensorAnswer s.draws))) := by
  rw [exec_rdsens, State.readSensor, State.burstRead_free h]

/-! ### The two truncations (R94, R95) -/

/-- The two modes differ exactly on negative numbers with a fraction, and there by 1 (R95). -/
theorem trunc4_modes (n : Int) :
    (trunc4 .towardZero n ≠ trunc4 .towardNegInf n ↔ n < 0 ∧ n % 4 ≠ 0) ∧
      (trunc4 .towardZero n ≠ trunc4 .towardNegInf n → trunc4 .towardNegInf n = trunc4 .towardZero n - 1) := by
  simp only [trunc4]
  split
  · exact ⟨by omega, by omega⟩
  · exact ⟨by omega, by omega⟩

/-- Toward zero, a number that is not negative has its quotient rounded down, and a negative one rounded up (R93, R94). -/
theorem trunc4_towardZero_eq_div (n : Int) : trunc4 .towardZero n = (n + if n < 0 then 3 else 0) / 4 := by
  simp only [trunc4]
  split <;> split <;> omega

/-! ### The 18-bit datapath (R93) -/

/-- The sum before the shift, in 18 bits, is the exact one (R93). -/
theorem datapath_sum_toInt (prev raw : S16) :
    ((prev.signExtend 18 <<< 2) + (raw.signExtend 18 - prev.signExtend 18)).toInt =
      4 * prev.toInt + (raw.toInt - prev.toInt) := by
  obtain ⟨-, hlow, hhigh⟩ := blend_range prev raw
  have hfour : prev.signExtend 18 <<< 2 = prev.signExtend 18 * 4#18 := by
    rw [BitVec.shiftLeft_eq_mul_twoPow]; rfl
  rw [hfour, BitVec.toInt_add, BitVec.toInt_mul, BitVec.toInt_sub, BitVec.toInt_signExtend_of_le (by decide),
    BitVec.toInt_signExtend_of_le (by decide), show (4#18).toInt = 4 from rfl, ← Int.add_bmod, mul_comm,
    Int.bmod_eq_of_le (by omega) (by omega)]

/-- Adding 3 to a negative sum does not overflow 18 bits (R93). -/
theorem toInt_add_three {n : BitVec 18} (h : n.toInt < 0) : (n + 3).toInt = n.toInt + 3 := by
  have hn : -131072 ≤ n.toInt := BitVec.le_toInt n
  rw [BitVec.toInt_add, show (3 : BitVec 18).toInt = 3 from rfl, Int.bmod_eq_of_le] <;> omega

/-- Bits 17 to 2 of an 18-bit pattern are the pattern of a quarter of its value, rounded down (R93). -/
theorem bits17to2 (n : BitVec 18) : (n.sshiftRight 2).setWidth 16 = pat16 (n.toInt / 4) := by
  rw [← BitVec.signExtend_eq_setWidth_of_le _ (by decide), BitVec.signExtend, BitVec.toInt_sshiftRight,
    Int.shiftRight_eq_div_pow]
  rfl

/-- The 18-bit datapath computes the exact blend in both modes (R93). -/
theorem emaDatapath_eq_emaLane (mode : TruncMode) (prev raw : S16) : emaDatapath mode prev raw = emaLane mode prev raw := by
  have hsum := datapath_sum_toInt prev raw
  unfold emaDatapath emaLane emaInt
  simp only [bits17to2]
  cases mode with
  | towardNegInf => simp only [add_zero, hsum]; rfl
  | towardZero =>
    rw [trunc4_towardZero_eq_div]
    simp only [BitVec.msb_eq_toInt, hsum, decide_eq_true_eq]
    split
    · next h => rw [toInt_add_three (by rw [hsum]; exact h), hsum]
    · rw [add_zero, add_zero, hsum]

/-! ### Where a lane stops (R101) -/

theorem emaInt_towardNegInf_stops (prev raw : Int) :
    emaInt .towardNegInf prev raw = prev ↔ 0 ≤ raw - prev ∧ raw - prev ≤ 3 := by
  simp only [emaInt, trunc4]
  omega

theorem emaInt_towardZero_stops_of_pos {prev : Int} (h : 0 < prev) (raw : Int) :
    emaInt .towardZero prev raw = prev ↔ 0 ≤ raw - prev ∧ raw - prev ≤ 3 := by
  simp only [emaInt, trunc4]
  split <;> omega

theorem emaInt_towardZero_stops_of_neg {prev : Int} (h : prev < 0) (raw : Int) :
    emaInt .towardZero prev raw = prev ↔ -3 ≤ raw - prev ∧ raw - prev ≤ 0 := by
  simp only [emaInt, trunc4]
  split <;> omega

theorem emaInt_towardZero_stops_of_zero {prev : Int} (h : prev = 0) (raw : Int) :
    emaInt .towardZero prev raw = prev ↔ -3 ≤ raw - prev ∧ raw - prev ≤ 3 := by
  simp only [emaInt, trunc4]
  split <;> omega

/-- A lane that moves goes toward its input by at least 1 (R97, R101). -/
theorem emaInt_moves {mode : TruncMode} {prev raw : Int} (h : emaInt mode prev raw ≠ prev) :
    (0 < raw - prev ∧ prev + 1 ≤ emaInt mode prev raw) ∨ (raw - prev < 0 ∧ emaInt mode prev raw ≤ prev - 1) := by
  have hbetween := emaInt_between mode prev raw
  omega

/-! ### A row of blends with a constant input (R100, R101) -/

/-- A blend that starts on one side of its input goes toward it and stays on that side (R97, R100). -/
theorem emaInt_approaches (mode : TruncMode) (prev raw : Int) :
    (prev ≤ raw → prev ≤ emaInt mode prev raw ∧ emaInt mode prev raw ≤ raw) ∧
      (raw ≤ prev → raw ≤ emaInt mode prev raw ∧ emaInt mode prev raw ≤ prev) := by
  have hbetween := emaInt_between mode prev raw
  omega

/-- A blend brings a lane within 3 of its input, or nearer to it by at least 1 (R101). -/
theorem emaInt_distance (mode : TruncMode) (prev raw : Int) :
    |emaInt mode prev raw - raw| ≤ 3 ∨ |emaInt mode prev raw - raw| + 1 ≤ |prev - raw| := by
  have happroach := emaInt_approaches mode prev raw
  by_cases hstop : emaInt mode prev raw = prev
  · left
    rw [hstop]
    cases mode with
    | towardNegInf => exact abs_le.2 (by have := (emaInt_towardNegInf_stops prev raw).1 hstop; omega)
    | towardZero =>
      rcases lt_trichotomy prev 0 with h | h | h
      · exact abs_le.2 (by have := (emaInt_towardZero_stops_of_neg h raw).1 hstop; omega)
      · exact abs_le.2 (by have := (emaInt_towardZero_stops_of_zero h raw).1 hstop; omega)
      · exact abs_le.2 (by have := (emaInt_towardZero_stops_of_pos h raw).1 hstop; omega)
  · right
    rcases emaInt_moves hstop with ⟨hd, hmove⟩ | ⟨hd, hmove⟩
    · rw [abs_of_nonpos (by omega), abs_of_nonpos (by omega)]; omega
    · rw [abs_of_nonneg (by omega), abs_of_nonneg (by omega)]; omega

/-- FSTEP reads the same input and truncates the same way any number of times. -/
theorem State.filterStep_iterate_input (s : State) (n : Nat) (k : Fin 6) :
    (State.filterStep^[n] s).rawVal k = s.rawVal k ∧ (State.filterStep^[n] s).truncMode = s.truncMode := by
  induction n with
  | zero => exact ⟨rfl, rfl⟩
  | succ n ih => rw [Function.iterate_succ_apply']; exact ih

/-- One more FSTEP is one more blend with the same input (R92, R99). -/
theorem State.filterStep_iterate_succ (s : State) (n : Nat) (k : Fin 6) :
    (State.filterStep^[n + 1] s).filtVal k =
      emaInt s.truncMode ((State.filterStep^[n] s).filtVal k) (s.rawVal k) := by
  obtain ⟨hraw, hmode⟩ := s.filterStep_iterate_input n k
  rw [Function.iterate_succ_apply', State.filterStep_filtVal, hraw, hmode]

/-- Any number of FSTEPs leave a lane between where it started and its input (R100). -/
theorem State.filterStep_iterate_between (s : State) (n : Nat) (k : Fin 6) :
    (s.filtVal k ≤ s.rawVal k →
        s.filtVal k ≤ (State.filterStep^[n] s).filtVal k ∧ (State.filterStep^[n] s).filtVal k ≤ s.rawVal k) ∧
      (s.rawVal k ≤ s.filtVal k →
        s.rawVal k ≤ (State.filterStep^[n] s).filtVal k ∧ (State.filterStep^[n] s).filtVal k ≤ s.filtVal k) := by
  induction n with
  | zero => exact ⟨fun h => ⟨le_refl _, h⟩, fun h => ⟨h, le_refl _⟩⟩
  | succ n ih =>
    rw [State.filterStep_iterate_succ]
    have happroach := emaInt_approaches s.truncMode ((State.filterStep^[n] s).filtVal k) (s.rawVal k)
    omega

/-- After `n` FSTEPs a lane is within 3 of its input, or nearer to it by `n` (R101). -/
theorem State.filterStep_iterate_distance (s : State) (n : Nat) (k : Fin 6) :
    |(State.filterStep^[n] s).filtVal k - s.rawVal k| ≤ 3 ∨
      |(State.filterStep^[n] s).filtVal k - s.rawVal k| + n ≤ |s.filtVal k - s.rawVal k| := by
  induction n with
  | zero => right; simp
  | succ n ih =>
    rw [State.filterStep_iterate_succ]
    have hnear := emaInt_distance s.truncMode ((State.filterStep^[n] s).filtVal k) (s.rawVal k)
    push_cast
    omega

/-- A lane is never further than 65535 from its input (R6). -/
theorem State.distance_le (s : State) (k : Fin 6) : |s.filtVal k - s.rawVal k| ≤ 65535 := by
  have hf := s16_range (s.filt.get k).value
  have hr := s16_range (s.raw.get k).value
  simp only [State.filtVal, State.rawVal]
  exact abs_le.2 (by omega)

end Sys2Proof.Machine

open Sys2Proof Sys2Proof.Machine

/-- Settles O26: the answer is listed, or free. -/
theorem burstReadWritesAllOfRaw : Obligations.BurstReadWritesAllOfRaw :=
  ⟨fun _ v _ h => ⟨_, exec_rdsens_listed h, fun k => wroteLanes_get v k, rfl, rfl⟩,
    fun _ h => ⟨_, exec_rdsens_free h, fun k => congrArg Reg.written (wroteLanes_get _ k), rfl⟩⟩

/-- Settles O27, by what FCLR leaves in each lane. -/
theorem fclrZeroesFilt : Obligations.FclrZeroesFilt :=
  fun s => ⟨s.clearFilter, exec_fclr s,
    fun k => ⟨s.clearFilter_filtVal k, congrArg Reg.written (s.clearFilter_filt_get k)⟩, rfl⟩

/-- Settles O30, by what SHADOW and EMA leave in each lane. -/
theorem fstepShadowsThenBlends : Obligations.FstepShadowsThenBlends := by
  refine fun s => ⟨s.filterStep, exec_fstep s, ?run, fun k => ⟨s.filterStep_shadVal k, ?blend⟩, fun k => ⟨?shad, ?filt⟩, rfl⟩
  case run => exact (runOps_cons (exec_shadow s)).trans (runOps_single (exec_ema s.shadowCopy))
  case blend => rw [State.filterStep_filtVal, emaInt_eq]
  case shad => exact congrArg Reg.written (s.shadowCopy_shad_get k)
  case filt => exact congrArg Reg.written (s.shadowCopy.emaUpdate_filt_get k)

/-- Settles O32, by the two truncations of one exact value. -/
theorem truncModesDifferOnlyOnNegativeFractions : Obligations.TruncModesDifferOnlyOnNegativeFractions := by
  intro s k
  refine ⟨_, _, exec_ema _, exec_ema _, ?_⟩
  rw [State.emaUpdate_filtVal, State.emaUpdate_filtVal, emaInt_eq, emaInt_eq]
  exact trunc4_modes _

/-- Settles O33: the lane is the exact integer, which lies between its operands. -/
theorem emaStaysBetweenItsOperands : Obligations.EmaStaysBetweenItsOperands := by
  refine fun s => ⟨s.emaUpdate, exec_ema s, fun k => ?_⟩
  rw [State.emaUpdate_filtVal]
  exact ⟨rfl, emaInt_between s.truncMode (s.shadVal k) (s.rawVal k)⟩

/-- Settles O34: every lane is the same function of its own two registers and the mode. -/
theorem lanesAreIndependent : Obligations.LanesAreIndependent := by
  intro s u j k hmode hshad hraw
  refine ⟨s.emaUpdate, u.emaUpdate, exec_ema s, exec_ema u, ?_, fun l => ?_⟩
  · rw [State.emaUpdate_filt_get, State.emaUpdate_filt_get, hmode, hshad, hraw]
  · rw [State.emaUpdate_filt_get, Reg.wrote_written]

/-- Settles O35, by the values of the 18-bit patterns. -/
theorem datapathEqualsExactFilter : Obligations.DatapathEqualsExactFilter := by
  intro mode prev raw
  obtain ⟨-, hlow, hhigh⟩ := blend_range prev raw
  exact ⟨emaDatapath_eq_emaLane mode prev raw, datapath_sum_toInt prev raw, hlow, hhigh, fun h => by omega⟩

/-- Settles O36: each FSTEP is one blend with the same input, which approaches it from its side. -/
theorem constantInputIsApproachedMonotonically : Obligations.ConstantInputIsApproachedMonotonically := by
  refine fun s n => ⟨_, _, runOps_replicate exec_fstep n s, runOps_replicate exec_fstep (n + 1) s, fun k => ?_⟩
  rw [State.filterStep_iterate_succ]
  have hbetween := s.filterStep_iterate_between n k
  have happroach := emaInt_approaches s.truncMode ((State.filterStep^[n] s).filtVal k) (s.rawVal k)
  omega

/-- Settles O37, by mode and by the shadow's sign. -/
theorem laneStopsExactlyWhereListed : Obligations.LaneStopsExactlyWhereListed := by
  refine fun s k => ⟨s.emaUpdate, exec_ema s, ?_⟩
  simp only [State.emaUpdate_filtVal]
  exact ⟨fun h => h ▸ emaInt_towardNegInf_stops _ _, fun h hpos => h ▸ emaInt_towardZero_stops_of_pos hpos _,
    fun h hneg => h ▸ emaInt_towardZero_stops_of_neg hneg _, fun h hzero => h ▸ emaInt_towardZero_stops_of_zero hzero _,
    emaInt_moves⟩

/-- Settles O38: a lane starts at most 65535 away, and each FSTEP brings it nearer until it is within 3. -/
theorem laneSettlesWithinThreeOfInput : Obligations.LaneSettlesWithinThreeOfInput := by
  refine fun s n hn => ⟨_, runOps_replicate exec_fstep n s, fun k => ?_⟩
  have hstart := s.distance_le k
  rcases s.filterStep_iterate_distance n k with h | h
  · exact h
  · omega

end

section
/-! The Event Encoder and the Dispatch Gate (R55, R105, R106, R110, R115, R116): six PUT16LE make a payload, a receiver reads
the filtered values back from it, and what GATE does under each form of observer. -/

namespace Sys2Proof.Machine

/-- A receiver reads a sample's value back from its two bytes (R55, R110). -/
theorem receiverValue_bytes (p : S16) : receiverValue (lowByte p) (highByte p) = p.toInt := by
  have hsum : (256 * (highByte p).toNat + (lowByte p).toNat : Int) = p.toNat := by
    rw [lowByte_toNat, highByte_toNat]
    omega
  unfold receiverValue
  simp only [hsum, toInt_of_toNat]
  by_cases h : p.toNat < 32768
  · rw [if_pos h, if_pos (by omega)]
  · rw [if_neg h, if_neg (by omega)]

/-- Two payloads are equal only if their samples are (R110). -/
theorem motionPayload_injective {v w : Sample} (h : motionPayload v = motionPayload w) : v = w := by
  have hunpack : some v = some w := by rw [← unpackMotion_motionPayload v, h, unpackMotion_motionPayload]
  exact Option.some.inj hunpack

/-- Two blocks that build the same payload hold the same filtered values (R110). -/
theorem State.filtVal_eq_of_buildMotion_pay {s u : State} (h : s.buildMotion.pay = u.buildMotion.pay) (k : Fin 6) :
    s.filtVal k = u.filtVal k := by
  have hbytes := congrArg Memory.bytes h
  rw [State.buildMotion, State.buildMotion, State.setPay_pay, State.setPay_pay, payOf_bytes, payOf_bytes] at hbytes
  have hlane := congrArg (fun v : Sample => v.get k) (motionPayload_injective hbytes)
  simp only [regValues_get] at hlane
  exact congrArg BitVec.toInt hlane

/-- An offer to an observer that is a function of the fields (R116; entry 4). -/
theorem State.offer_function {s : State} {rows : List (EventFields × Bool)} {otherwise : Bool}
    (h : s.observer = .function rows otherwise) (kind : EventKind) (payload : List Byte) (f : EventFields) :
    s.offer kind payload f =
      { s with tx := if answerOf rows otherwise f = true then s.tx else s.tx ++ [(kind, payload)] } := by
  rw [State.offer_spec, State.observe_function h]

/-- An offer to an observer with an answer left for this call (R116; entry 4). -/
theorem State.offer_answer {s : State} {b : Bool} {rest : List Bool} (h : s.observer = .answers (b :: rest))
    (kind : EventKind) (payload : List Byte) (f : EventFields) :
    s.offer kind payload f =
      { s with observer := .answers rest, tx := if b = true then s.tx else s.tx ++ [(kind, payload)] } := by
  rw [State.offer_spec, State.observe_answer h]
  rfl

/-- An offer to an observer that answers freely (R116; entry 4). -/
theorem State.offer_free {s : State} (h : s.observer = .answers []) (kind : EventKind) (payload : List Byte)
    (f : EventFields) :
    s.offer kind payload f =
      { s with draws := s.draws + 1,
               tx := if Config.observerAnswer s.draws f = true then s.tx else s.tx ++ [(kind, payload)] } := by
  rw [State.offer_spec, State.observe_free h]
  rfl

end Sys2Proof.Machine

open Sys2Proof Sys2Proof.Machine

/-- Settles O40, by whether PAY has both cells. -/
theorem put16leAtOtherIndices : Obligations.Put16leAtOtherIndices := by
  intro i v s _
  refine ⟨fun hi => ?_, fun hi => ?_⟩
  · obtain ⟨hlow, hhigh, hother⟩ := Memory.read_put16le s.pay i v
    exact ⟨_, exec_put16le_of_cellsExist hi v s, hlow, hhigh, hother, s.setPay_frame _⟩
  · rcases execPut16le_cases i v s with ⟨hcells, -⟩ | ⟨-, h⟩
    · exact absurd hcells (Nat.not_lt.2 hi)
    · exact h

/-- Settles O42: each PUT16LE goes into the PAY that the ones before it left. -/
theorem encmdIsSixPut16le : Obligations.EncmdIsSixPut16le := by
  refine fun s => ⟨s.buildMotion, exec_encmd s, ?_⟩
  rw [State.buildMotion, payOf]
  exact (runOps_cons (exec_put16le_lane (k := 0) s payHeader (by decide) _)).trans <|
    (runOps_cons (exec_put16le_lane (k := 1) s _ (by decide) _)).trans <|
    (runOps_cons (exec_put16le_lane (k := 2) s _ (by decide) _)).trans <|
    (runOps_cons (exec_put16le_lane (k := 3) s _ (by decide) _)).trans <|
    (runOps_cons (exec_put16le_lane (k := 4) s _ (by decide) _)).trans <|
    runOps_single (exec_put16le_lane (k := 5) s _ (by decide) _)

/-- Settles O44: a receiver's reading undoes the two bytes of a sample, and unpacking undoes the payload. -/
theorem payloadDecodesToFilteredValues : Obligations.PayloadDecodesToFilteredValues := by
  refine ⟨fun s => ⟨_, exec_encmd s, fun k => ?read⟩, fun s u => ⟨_, _, exec_encmd s, exec_encmd u, ?distinct⟩⟩
  case read =>
    obtain ⟨hlow, hhigh⟩ := s.buildMotion_read_lane k
    exact ⟨_, _, hlow, hhigh, receiverValue_bytes _⟩
  case distinct => exact State.filtVal_eq_of_buildMotion_pay

/-- Settles O46: GATE is the offer of the payload's fields, for each form of observer. -/
theorem observerSeesFieldsAndVetoes : Obligations.ObserverSeesFieldsAndVetoes := by
  intro v s
  refine ⟨fun rows otherwise h => ?_, fun rows otherwise m h => ?_, fun b rest h => ?_, fun b rest m h => ?_,
    fun h => ⟨Config.observerAnswer s.draws (motionFields v), ?_⟩,
    fun m h => ⟨Config.observerAnswer s.draws (modeFields m), ?_⟩⟩
  · rw [exec_gate_motion, State.offer_function h]; rfl
  · rw [exec_gate_mode, State.offer_function h]; rfl
  · rw [exec_gate_motion, State.offer_answer h]
  · rw [exec_gate_mode, State.offer_answer h]
  · rw [exec_gate_motion, State.offer_free h]
  · rw [exec_gate_mode, State.offer_free h]

/-- Settles O47: bytes outside the format have no fields. -/
theorem gateRefusesBytesOutsideFormat : Obligations.GateRefusesBytesOutsideFormat := by
  intro kind payload s hfits
  rcases execGate_cases kind payload s with ⟨f, hf, -⟩ | ⟨-, h⟩
  · rw [← fieldsOf_isSome, hf] at hfits
    cases hfits
  · exact h

/-- Settles O48: an outgoing event is emitted with the bytes of its packet. -/
theorem outgoingEventIsEmitted : Obligations.OutgoingEventIsEmitted :=
  fun s v m => ⟨exec_evtMotionData v s, exec_evtMotionMode m s⟩

end

section
/-! POLL (R120 to R123, R39, R42, R159): what one sequence leaves, its micro-operations in a run, an IRQ among them, and a row
of served interrupts. -/

namespace Sys2Proof.Machine

/-! ### What a sequence leaves -/

theorem State.pollSequence_mpay (s : State) : s.pollSequence.mpay = s.mpay := State.pollSequence_get State.mpay s
theorem State.pollSequence_pending (s : State) : s.pollSequence.pending = s.pending :=
  State.pollSequence_get State.pending s
theorem State.pollSequence_input (s : State) : s.pollSequence.input = s.input := State.pollSequence_get State.input s
theorem State.pollSequence_inside (s : State) : s.pollSequence.inside = s.inside := State.pollSequence_get State.inside s
theorem State.pollSequence_turns (s : State) : s.pollSequence.turns = s.turns := State.pollSequence_get State.turns s

/-- A sequence takes one answer of the oracle (R85, R120). -/
theorem State.pollSequence_sensor (s : State) : s.pollSequence.sensor = s.readSensor.sensor :=
  State.offer_get State.sensor s.readSensor.filterStep.buildMotion _ _ _

/-- A sequence leaves the payload of the new FILT in PAY (R106, R120). -/
theorem State.pollSequence_pay_eq_buildMotion (s : State) : s.pollSequence.pay = s.pollSequence.buildMotion.pay := by
  rw [State.pollSequence_pay, ← s.pollSequence_frame.1]
  rfl

theorem State.pollSequence_shadVal (s : State) (k : Fin 6) : s.pollSequence.shadVal k = s.filtVal k := by
  rw [State.shadVal, State.pollSequence_shad, wroteLanes_get, regValues_get]
  rfl

/-- After a sequence every register is written (R24, R120). -/
theorem State.pollSequence_written (s : State) (i : Fin 18) : (s.pollSequence.x i).written = true := by
  refine (State.forall_x s.pollSequence s.pollSequence fun a _ => a.written = true).2
    ⟨fun k => ?_, fun k => ?_, fun k => ?_⟩ i
  · rw [State.pollSequence_raw, State.readSensor, State.setRaw_raw, wroteLanes_get, Reg.wrote_written]
  · rw [s.pollSequence_frame.1, State.filterStep, State.emaUpdate_filt_get, Reg.wrote_written]
  · rw [State.pollSequence_shad, wroteLanes_get, Reg.wrote_written]

/-- After POLL nothing is pending (R120, R121). -/
theorem State.pollPass_latch (s : State) : s.pollPass.latch = false := by
  cases h : s.latch with
  | false => rw [State.pollPass_idle h, h]
  | true => rw [State.pollPass_busy h, State.pollSequence_latch, State.setLatch_latch]

/-! ### The micro-operations in a run -/

/-- RDSENS, FSTEP, ENCMD and GATE of what ENCMD built are one sequence (R120). -/
theorem runOps_pollSequence (s : State) :
    runOps [.rdsens, .fstep, .encmd, .gate .motionData s.pollSequence.pay.bytes] s = .next s.pollSequence := by
  rw [State.pollSequence_pay, payOf_bytes, runOps_cons (exec_rdsens s), runOps_cons (exec_fstep s.readSensor),
    runOps_cons (exec_encmd s.readSensor.filterStep)]
  exact runOps_single (exec_gate_motion _ _)

/-- LCLR and the micro-operations after it are POLL, up to LCLR's own result (R120, R121; entry 12). -/
theorem runOps_poll {s : State} (h : s.latch = true) :
    runOps [.lclr, .rdsens, .fstep, .encmd, .gate .motionData s.pollPass.pay.bytes] s =
      .next (s.pollPass.setPending true) := by
  have hrun := runOps_pollSequence ((s.setLatch false).setPending true)
  rw [State.pollSequence_setPending, ← State.pollPass_busy h] at hrun
  rw [runOps_cons (exec_lclr s), h]
  exact hrun

/-! ### An IRQ among them (R42, R122) -/

/-- Two runs that end alike from every state end alike after any operation. -/
theorem runOps_cons_congr {xs ys : List Instr} (h : ∀ s, runOps xs s = runOps ys s) (i : Instr) (s : State) :
    runOps (i :: xs) s = runOps (i :: ys) s := by
  simp only [runOps, h]

/-- Two runs that end alike from every state end alike after any run. -/
theorem runOps_append_congr {ys zs : List Instr} (h : ∀ s, runOps ys s = runOps zs s) (xs : List Instr) (s : State) :
    runOps (xs ++ ys) s = runOps (xs ++ zs) s := by
  induction xs generalizing s with
  | nil => exact h s
  | cons i xs ih => exact runOps_cons_congr ih i s

/-- An IRQ just before the operation has the effect of the same IRQ just after it. -/
def IrqCommutes (i : Instr) : Prop :=
  ∀ s, ∃ t, runOps [.irq, i] s = .next t ∧ runOps [i, .irq] s = .next t

/-- An operation that always completes, keeps MODE and does not look at LATCH commutes with an IRQ. -/
theorem irqCommutes_of {i : Instr} {f : State → State} (he : ∀ s, exec i s = .next (f s))
    (hmode : ∀ s, (f s).mode = s.mode) (hlatch : ∀ s, f (s.setLatch true) = (f s).setLatch true) : IrqCommutes i := by
  intro s
  cases hm : s.mode with
  | disabled =>
    refine ⟨f s, ?_, ?_⟩
    · rw [runOps_cons (exec_irq_of_disabled hm)]; exact runOps_single (he s)
    · rw [runOps_cons (he s)]; exact runOps_single (exec_irq_of_disabled ((hmode s).trans hm))
  | enabled =>
    refine ⟨(f s).setLatch true, ?_, ?_⟩
    · rw [runOps_cons (exec_irq_of_enabled hm), ← hlatch]; exact runOps_single (he _)
    · rw [runOps_cons (he s)]; exact runOps_single (exec_irq_of_enabled ((hmode s).trans hm))

/-- An IRQ before a row of operations it commutes with has the effect of the same IRQ after them. -/
theorem runOps_irq_last {xs : List Instr} (h : ∀ i ∈ xs, IrqCommutes i) (s : State) :
    runOps (.irq :: xs) s = runOps (xs ++ [.irq]) s := by
  induction xs generalizing s with
  | nil => rfl
  | cons i xs ih =>
    obtain ⟨t, hfirst, hlast⟩ := h i List.mem_cons_self s
    calc runOps (.irq :: i :: xs) s = runOps xs t := runOps_append (xs := [.irq, i]) hfirst
      _ = runOps (i :: .irq :: xs) s := (runOps_append (xs := [i, .irq]) hlast).symm
      _ = runOps (i :: (xs ++ [.irq])) s := runOps_cons_congr (ih fun j hj => h j (List.mem_cons_of_mem i hj)) i s

/-- An IRQ anywhere in such a row has the effect of the same IRQ after it. -/
theorem runOps_irq_anywhere {xs : List Instr} (h : ∀ i ∈ xs, IrqCommutes i) (j : Nat) (s : State) :
    runOps (xs.take j ++ .irq :: xs.drop j) s = runOps (xs ++ [.irq]) s := by
  have hdrop : ∀ t, runOps (.irq :: xs.drop j) t = runOps (xs.drop j ++ [.irq]) t :=
    runOps_irq_last fun i hi => h i (List.mem_of_mem_drop hi)
  rw [runOps_append_congr hdrop, ← List.append_assoc, List.take_append_drop]

/-- The micro-operations of a sequence commute with an IRQ (R42, R122). -/
theorem irqCommutes_pollSequence (v : Sample) :
    ∀ i ∈ ([.rdsens, .fstep, .encmd, .gate .motionData (motionPayload v)] : List Instr), IrqCommutes i := by
  simp only [List.forall_mem_cons, List.not_mem_nil, false_imp_iff, implies_true, and_true]
  exact ⟨irqCommutes_of exec_rdsens State.readSensor_mode fun s => s.readSensor_setLatch true,
    irqCommutes_of exec_fstep (fun _ => rfl) fun _ => rfl,
    irqCommutes_of exec_encmd (fun _ => rfl) fun _ => rfl,
    irqCommutes_of (exec_gate_motion v) (fun s => s.offer_mode _ _ _) fun s => s.offer_setLatch true _ _ _⟩

/-- IRQ does not look at LCLR's result (entry 12). -/
theorem exec_irq_setPending {s t : State} (h : exec .irq s = .next t) (b : Bool) :
    exec .irq (s.setPending b) = .next (t.setPending b) := by
  cases does_of_exec h with
  | irqAccepted hm => exact exec_irq_of_enabled (s := s.setPending b) hm
  | irqLost hm => exact exec_irq_of_disabled hm

/-! ### Served interrupts (R39, R159) -/

/-- On an enabled block with no observer, one IRQ and the POLL after it send one motion-data payload (R39). -/
theorem runOps_sample {s : State} (hm : s.mode = .enabled) (ho : s.observer = .absent) :
    ∃ t v, runOps [.irq, .poll] s = .next t ∧ t.mode = .enabled ∧ t.observer = .absent ∧ t.latch = false ∧
      t.tx = s.tx ++ [(.motionData, motionPayload v)] := by
  have hpoll : (s.setLatch true).pollPass = (s.setLatch false).pollSequence := State.pollPass_busy rfl
  refine ⟨(s.setLatch false).pollSequence, regValues (s.setLatch false).readSensor.filterStep.filt,
    ?run, ?mode, ?observer, ?latch, ?tx⟩
  case run =>
    rw [runOps_cons (exec_irq_of_enabled hm), ← hpoll]
    exact runOps_single (exec_poll _)
  case mode => rw [State.pollSequence_mode]; exact hm
  case observer => exact ((s.setLatch false).pollSequence_absent_iff).2 ho
  case latch => rw [State.pollSequence_latch, State.setLatch_latch]
  case tx =>
    have hsent := (s.setLatch false).pollSequence_tx.2 ho
    rw [State.pollSequence_pay, payOf_bytes] at hsent
    exact hsent

end Sys2Proof.Machine

open Sys2Proof Sys2Proof.Machine

/-- Settles O49, by whether LATCH is true, and field by field of one sequence. -/
theorem pollRunsOneSequenceIfLatched : Obligations.PollRunsOneSequenceIfLatched := by
  refine ⟨fun s h => congrArg _ (State.pollPass_idle h), fun s h => ?_⟩
  obtain ⟨honce, habsent⟩ := (s.setLatch false).pollSequence_tx
  have hread : (s.setLatch false).readSensor = s.readSensor.setLatch false := s.readSensor_setLatch false
  refine ⟨(s.setLatch false).pollSequence, congrArg _ (State.pollPass_busy h), State.pollSequence_latch _,
    ⟨s.readSensor, exec_rdsens s, ?raw, ?sensor⟩, fun k => ⟨State.pollSequence_shadVal _ k, ?blend⟩,
    State.pollSequence_written _, ⟨_, exec_encmd _, State.pollSequence_pay_eq_buildMotion _⟩, honce, habsent,
    State.pollSequence_mode _, State.pollSequence_mpay _, State.pollSequence_ctl _, State.pollSequence_pending _,
    State.pollSequence_truncMode _, State.pollSequence_input _, State.pollSequence_inside _, State.pollSequence_turns _⟩
  case raw => rw [State.pollSequence_raw, hread, State.setLatch_raw]
  case sensor => rw [State.pollSequence_sensor, hread, State.setLatch_sensor]
  case blend => rw [State.pollSequence_filtVal, emaInt_eq]; rfl

/-- Settles O50, by running the micro-operations one after the other. -/
theorem pollIsItsMicroOperations : Obligations.PollIsItsMicroOperations :=
  fun s h => ⟨s.pollPass, exec_poll s, runOps_poll h⟩

/-- Settles O51: the micro-operations after LCLR commute with an IRQ, so it may be moved after them. -/
theorem irqInsidePollIsIrqAfterIt : Obligations.IrqInsidePollIsIrqAfterIt := by
  intro s j h
  obtain ⟨u, hirq, -⟩ := exec_irq_frame s.pollPass
  refine ⟨s.pollPass, u, exec_poll s, (runOps_cons (exec_poll s)).trans (runOps_single hirq), ?_⟩
  have hbytes : s.pollPass.pay.bytes = motionPayload (regValues s.pollPass.filt) := by
    rw [State.pollPass_busy h, State.pollSequence_pay_eq_buildMotion]
    exact payOf_bytes _
  have hcommutes := irqCommutes_pollSequence (regValues s.pollPass.filt)
  rw [← hbytes] at hcommutes
  have hpoll := runOps_append (ys := [.irq]) (runOps_poll h)
  rw [runOps_cons_congr (runOps_irq_anywhere hcommutes j)]
  exact hpoll.trans (runOps_single (exec_irq_setPending hirq true))

/-- Settles O52: after a POLL nothing is pending. -/
theorem secondPollDoesNothing : Obligations.SecondPollDoesNothing := by
  refine fun s => ⟨s.pollPass, runOps_single (exec_poll s), (runOps_cons (exec_poll s)).trans (runOps_single ?_)⟩
  rw [exec_poll, State.pollPass_idle s.pollPass_latch]

/-- Settles O53: POLL does not look at MODE. -/
theorem pollIgnoresMode : Obligations.PollIgnoresMode :=
  fun s m => ⟨s.pollPass, exec_poll s, congrArg _ (s.pollPass_setMode m)⟩

/-- Settles O54, by induction on the number of samples: each sends one payload after the ones before it. -/
theorem eachServedInterruptSendsOnePayload : Obligations.EachServedInterruptSendsOnePayload := by
  intro n
  induction n with
  | zero => exact fun s _ _ hl => ⟨s, [], rfl, (List.append_nil _).symm, rfl, fun e he => absurd he List.not_mem_nil, hl⟩
  | succ n ih =>
    intro s hm ho _
    obtain ⟨t, v, hrun, hmode, hobserver, hlatch, htx⟩ := runOps_sample hm ho
    obtain ⟨u, sent, hrest, hsent, hcount, hform, hdone⟩ := ih t hmode hobserver hlatch
    refine ⟨u, (.motionData, motionPayload v) :: sent, ?_, ?_, by rw [List.length_cons, hcount], ?_, hdone⟩
    · rw [List.replicate_succ, List.flatten_cons, runOps_append hrun, hrest]
    · rw [hsent, htx, List.append_assoc]; rfl
    · exact List.forall_mem_cons.2 ⟨⟨rfl, rfl, rfl⟩, hform⟩

end

section
/-! The signals (R163): a payload's bytes packed into `tx_data`, its length in `tx_len`, and its kind in `tx_kind`. -/

namespace Sys2Proof.Machine

/-- Byte `i` of the packed number is byte `i` of the payload (R163). -/
theorem packLow_byte {payload : List Byte} {i : Nat} {b : Byte} (h : payload[i]? = some b) :
    packLow payload / 256 ^ i % 256 = b.toNat := by
  induction payload generalizing i with
  | nil => cases h
  | cons c rest ih =>
    have hc := c.isLt
    cases i with
    | zero =>
      obtain rfl : c = b := Option.some.inj h
      simp only [packLow, pow_zero, Nat.div_one]
      omega
    | succ i =>
      have hshift : packLow (c :: rest) / 256 = packLow rest := by simp only [packLow]; omega
      rw [pow_succ', ← Nat.div_div_eq_div_mul, hshift]
      exact ih h

/-- A payload packs into as many bytes as it has. -/
theorem packLow_lt (payload : List Byte) : packLow payload < 256 ^ payload.length := by
  induction payload with
  | nil => exact Nat.one_pos
  | cons c rest ih =>
    have hc := c.isLt
    simp only [packLow, List.length_cons, pow_succ']
    omega

/-- `tx_data` holds a payload of up to 15 bytes whole (R163). -/
theorem txDataSignal_toNat {payload : List Byte} (h : payload.length ≤ 15) :
    (txDataSignal payload).toNat = packLow payload := by
  have hfits : packLow payload < 2 ^ 120 :=
    calc packLow payload < 256 ^ payload.length := packLow_lt payload
      _ ≤ 256 ^ 15 := Nat.pow_le_pow_right (by decide) h
      _ = 2 ^ 120 := by norm_num
  rw [txDataSignal, BitVec.toNat_ofNat, Nat.mod_eq_of_lt hfits]

/-- Payload byte `i` stands in bits `8i+7` to `8i` of `tx_data` (R163). -/
theorem txDataSignal_byte {payload : List Byte} {i : Nat} {b : Byte} (hlength : payload.length ≤ 15)
    (h : payload[i]? = some b) : (txDataSignal payload).extractLsb' (8 * i) 8 = b := by
  refine BitVec.eq_of_toNat_eq ?_
  rw [BitVec.extractLsb'_toNat, txDataSignal_toNat hlength, Nat.shiftRight_eq_div_pow, pow_mul]
  exact packLow_byte h

/-- A payload's length is that of its kind, and `tx_len` holds it (R61, R163). -/
theorem txLenSignal_of_payloadFits {kind : EventKind} {payload : List Byte} (h : payloadFits kind payload = true) :
    (txLenSignal payload).toNat = payload.length ∧ payload.length = if txKindSignal kind then 2 else 15 := by
  cases kind with
  | motionData => obtain ⟨v, rfl⟩ := payloadFits_motion.1 h; exact ⟨rfl, rfl⟩
  | modeChange => obtain ⟨m, rfl⟩ := payloadFits_mode.1 h; exact ⟨rfl, rfl⟩

/-- The data-ready line asks for an IRQ on its falling edge and for nothing else (R163). -/
theorem opsOfDrdy_eq_ite (before now : Bool) :
    opsOfDrdy before now = if before = true ∧ now = false then [.irq] else [] := by
  cases before <;> cases now <;> rfl

end Sys2Proof.Machine

open Sys2Proof Sys2Proof.Machine

/-- Settles O60, signal by signal. -/
theorem signalsCarryEveryByte : Obligations.SignalsCarryEveryByte :=
  ⟨fun _ => ⟨rfl, rfl⟩, fun _ k => Lanes.get_ofFn _ k, fun _ _ _ => txDataSignal_byte,
    fun _ _ => txLenSignal_of_payloadFits, ⟨rfl, rfl⟩, fun _ => decide_eq_true_iff, opsOfDrdy_eq_ite,
    fun _ => ⟨rfl, rfl⟩, fun _ _ _ => ⟨rfl, rfl, rfl⟩⟩

end
